-- ==== Sys2Proof/Word.lean ====
section
/-! DEFINITION. The words of the Rostiga FS-4: a byte of a port frame, of an I2C transaction or of the
header line, and a pixel of the video input and output (0.6, section 6.1). -/

namespace Sys2Proof

/-- A byte of a command frame, a response frame, an I2C transaction or the header line. -/
abbrev Byte := BitVec 8

/-- A 10-bit pixel level, 0 to 1023 (0.6 "Units"). -/
abbrev Pixel := BitVec 10

end Sys2Proof
end

