-- ==== Sys2Proof/Syntax.lean ====
section
/-! DEFINITION. The commands of the part: the four ports, the 37 host commands of Table 9-4, the answers a
sensor gives on the I2C bus, and `Instr`, one constructor for each row of spec/opcode_table.json. -/

namespace Sys2Proof

/-- The four ports H0 to H3; the host on port Hn is host n (0.6 "Names"). -/
inductive HostId where
  | h0 | h1 | h2 | h3
deriving DecidableEq, Repr

/-- The port's number, 0 to 3. -/
def HostId.number : HostId → Nat
  | .h0 => 0
  | .h1 => 1
  | .h2 => 2
  | .h3 => 3

/-- The host commands of Table 9-4 (R143). -/
inductive CommandCode where
  | attach | detach | getStatus | getNotice | setAttention
  | submit | cancel | resume | queryRequest | listRequests
  | createProfile | deleteProfile | readProfile | setExposure | setLimits | setTarget | setWindow
  | setSteps | share
  | setMode | tune
  | rebuild | readSlot | getCalendarInfo
  | fetchRecord | ackRecord | setHold
  | claim | release | setConfig | readConfig | setQuota | start | stop
  | sensorRead | sensorWrite | setMap
deriving DecidableEq, Repr

/-- How the sensor answers a write transaction, or any drained transaction (R121, R122): every byte
acknowledged, or the byte at a position (the address byte is 1) not acknowledged. -/
inductive BusAnswer where
  | acknowledged
  | nack (position : Nat)
deriving DecidableEq, Repr

/-- How the sensor answers a read transaction (R124): the data bytes, first received first, or a NACK on
one of the address bytes. -/
inductive ReadAnswer where
  | data (bytes : List Byte)
  | nack (position : Nat)
deriving DecidableEq, Repr

/-- A moment of an SPI transaction (R141). What falls between two moments falls between the two commands: the
status byte is sampled at the fall of select, a response read is acted on at the end of its direction byte,
and a command transaction at the rise of select. -/
inductive Moment where
  /-- Select falls. -/
  | falls
  /-- The direction byte is complete. -/
  | direction
  /-- Further whole bytes are complete; `received` is what the host sent. -/
  | bytes (received : List Byte)
  /-- Select rises. -/
  | rises
deriving DecidableEq, Repr

/-- One constructor for each row of spec/opcode_table.json: what may happen at the part, from outside (a
transaction, a pin, the video input, the sensor's answer on the bus) or in one of its blocks (a timer runs
out, a block takes the command handed to it). The arguments of a host command are the bytes of its command
frame, which `commandTransaction` brought and handed on (R144); the row of the command itself is the
owning block's taking of it, so it carries the port alone. -/
inductive Instr where
  /-- POWER_ON (R160): power-on, or the RESET pin goes low. -/
  | powerOn
  /-- HRST_PULSE (R151): HRSTn has been low for 1 µs. -/
  | hrstPulse (h : HostId)
  /-- HRST_RELEASE (R151): HRSTn returns high. -/
  | hrstRelease (h : HostId)
  /-- COMMAND_TRANSACTION (R145): a moment of a transaction with direction byte 01h. -/
  | commandTransaction (h : HostId) (moment : Moment)
  /-- RESPONSE_READ (R146): a moment of a transaction with direction byte 02h. -/
  | responseRead (h : HostId) (moment : Moment)
  /-- STATUS_POLL (R141): a moment of a transaction with any other direction byte. -/
  | statusPoll (h : HostId) (direction : Byte) (moment : Moment)
  /-- COMMAND_ANSWER (R147): an owning block's answer reaches the port's response buffer. -/
  | commandAnswer (h : HostId)
  | attach (h : HostId)
  | detach (h : HostId)
  | detachFreeRequests (h : HostId)
  | detachProfiles (h : HostId)
  | detachEmptyRecordQueue (h : HostId)
  | detachEndDirectCommand (h : HostId)
  | detachFreeClaim (h : HostId)
  | getStatus (h : HostId)
  | getNotice (h : HostId)
  | setAttention (h : HostId)
  | submit (h : HostId)
  | cancel (h : HostId)
  | resume (h : HostId)
  | queryRequest (h : HostId)
  | listRequests (h : HostId)
  | createProfile (h : HostId)
  | deleteProfile (h : HostId)
  | readProfile (h : HostId)
  | setExposure (h : HostId)
  | setLimits (h : HostId)
  | setTarget (h : HostId)
  | setWindow (h : HostId)
  | setSteps (h : HostId)
  | share (h : HostId)
  | setMode (h : HostId)
  | tune (h : HostId)
  | rebuild (h : HostId)
  | readSlot (h : HostId)
  | getCalendarInfo (h : HostId)
  | fetchRecord (h : HostId)
  | ackRecord (h : HostId)
  | setHold (h : HostId)
  | claim (h : HostId)
  | release (h : HostId)
  | setConfig (h : HostId)
  | readConfig (h : HostId)
  | setQuota (h : HostId)
  | start (h : HostId)
  | stop (h : HostId)
  | sensorRead (h : HostId)
  | sensorWrite (h : HostId)
  | setMap (h : HostId)
  /-- CLAIM_EXPIRY (R162): the claim timer runs out. -/
  | claimExpiry
  /-- HOLD_TIMEOUT (R136): the hold of a record of the host runs out. -/
  | holdTimeout (h : HostId)
  /-- BUILD_COMPLETE (R53): the build under way ends. -/
  | buildComplete
  /-- SLOT_START (R76): the slot timer makes a slot start. -/
  | slotStart
  /-- EXPOSURE_TIMER_EXPIRY (R77): the exposure timer expires. -/
  | exposureTimerExpiry
  /-- FRAME_START (R78): the rise of frame-valid on the video input. -/
  | frameStart
  /-- VIDEO_LINE (R105): a line on the video input. `cut` says that Frame Pass leaves TAKING while the
  line is still arriving, `pixels` being those received before (the happening that ends TAKING follows). -/
  | videoLine (pixels : List Pixel) (cut : Bool)
  /-- FRAME_END (R79): the fall of frame-valid on the video input. -/
  | frameEnd
  /-- I2C_TRANSACTION_BEGIN (R121): the Sensor Link begins the next transaction of its work. -/
  | i2cTransactionBegin
  /-- SETUP_WRITE_END (R122): a write transaction of a setup ends. -/
  | setupWriteEnd (answer : BusAnswer)
  /-- DRAIN_END (R123): the drained transaction ends. -/
  | drainEnd (answer : BusAnswer)
  /-- DIRECT_READ_END (R124): a SENSOR_READ transaction ends. -/
  | directReadEnd (answer : ReadAnswer)
  /-- DIRECT_WRITE_END (R125): a SENSOR_WRITE transaction ends. -/
  | directWriteEnd (answer : BusAnswer)
  /-- RESET_RELEASE (R160): the RESET pin returns high. -/
  | resetRelease
deriving DecidableEq, Repr

end Sys2Proof
end

