-- ==== Sys2Proof/Decode.lean ====
section
/-! DEFINITION. The bytes a host sends: the command codes of Table 9-4 and the command frame of Table 9-1,
decoded (R143, R144) and encoded. The rows of spec/opcode_table.json give no bits, so no table word spells
a command. -/

namespace Sys2Proof

/-- The code of a command (Table 9-4). -/
def CommandCode.toByte : CommandCode → Byte
  | .attach => 0x01
  | .detach => 0x02
  | .getStatus => 0x03
  | .getNotice => 0x04
  | .setAttention => 0x05
  | .submit => 0x10
  | .cancel => 0x11
  | .resume => 0x12
  | .queryRequest => 0x13
  | .listRequests => 0x14
  | .createProfile => 0x20
  | .deleteProfile => 0x21
  | .readProfile => 0x22
  | .setExposure => 0x23
  | .setLimits => 0x24
  | .setTarget => 0x25
  | .setWindow => 0x26
  | .setSteps => 0x27
  | .share => 0x28
  | .setMode => 0x30
  | .tune => 0x31
  | .rebuild => 0x38
  | .readSlot => 0x39
  | .getCalendarInfo => 0x3A
  | .fetchRecord => 0x40
  | .ackRecord => 0x41
  | .setHold => 0x42
  | .claim => 0x50
  | .release => 0x51
  | .setConfig => 0x52
  | .readConfig => 0x53
  | .setQuota => 0x54
  | .start => 0x55
  | .stop => 0x56
  | .sensorRead => 0x60
  | .sensorWrite => 0x61
  | .setMap => 0x62

/-- The command a code byte names, if Table 9-4 has it. Written from the table on its own, not as a search
of `toByte`. -/
def CommandCode.ofByte (b : Byte) : Option CommandCode :=
  match b.toNat with
  | 0x01 => some .attach
  | 0x02 => some .detach
  | 0x03 => some .getStatus
  | 0x04 => some .getNotice
  | 0x05 => some .setAttention
  | 0x10 => some .submit
  | 0x11 => some .cancel
  | 0x12 => some .resume
  | 0x13 => some .queryRequest
  | 0x14 => some .listRequests
  | 0x20 => some .createProfile
  | 0x21 => some .deleteProfile
  | 0x22 => some .readProfile
  | 0x23 => some .setExposure
  | 0x24 => some .setLimits
  | 0x25 => some .setTarget
  | 0x26 => some .setWindow
  | 0x27 => some .setSteps
  | 0x28 => some .share
  | 0x30 => some .setMode
  | 0x31 => some .tune
  | 0x38 => some .rebuild
  | 0x39 => some .readSlot
  | 0x3A => some .getCalendarInfo
  | 0x40 => some .fetchRecord
  | 0x41 => some .ackRecord
  | 0x42 => some .setHold
  | 0x50 => some .claim
  | 0x51 => some .release
  | 0x52 => some .setConfig
  | 0x53 => some .readConfig
  | 0x54 => some .setQuota
  | 0x55 => some .start
  | 0x56 => some .stop
  | 0x60 => some .sensorRead
  | 0x61 => some .sensorWrite
  | 0x62 => some .setMap
  | _ => none

/-- Why the port refuses a frame before any block sees it (R144). -/
inductive FrameError where
  | badLength
  | unknownCommand
deriving DecidableEq, Repr

/-- The first two checks of R144 on the bytes after the direction byte: at least a code and an argument
length, the length 32 or less and equal to the number of bytes that follow it, and a code of Table 9-4. -/
def decodeFrame : List Byte → Except FrameError (CommandCode × List Byte)
  | code :: length :: args =>
    if length.toNat ≤ 32 ∧ args.length = length.toNat then
      match CommandCode.ofByte code with
      | some c => .ok (c, args)
      | none => .error .unknownCommand
    else .error .badLength
  | _ => .error .badLength

/-- The command frame of a command with its arguments (Table 9-1). -/
def encodeFrame (c : CommandCode) (args : List Byte) : List Byte :=
  c.toByte :: BitVec.ofNat 8 args.length :: args

/-- No row of spec/opcode_table.json gives bits: no word spells a command. -/
def decodeTableWord (_nbits _w : Nat) : Option Instr := none

end Sys2Proof
end

