-- ==== Sys2Proof/Machine/State.lean ====
section
/-! DEFINITION. The state of the part, block by block as Table 0-1 lists them, as plain data; the reasons a
step can stop (there is none but a command without a meaning, and every command has one); and the state
after power-on. A field that the handbook calls conditional stands inside the constructor that makes it
present, so that an absent field holds no value. -/

namespace Sys2Proof.Machine

/-- One value for each of the four hosts. -/
structure PerHost (α : Type) where
  h0 : α
  h1 : α
  h2 : α
  h3 : α
deriving DecidableEq, Repr

/-! ### Host Ports (Chapter 9) -/

/-- The status codes of Table 9-3 (01h is reserved and never given). -/
inductive Status where
  | ok | wait | noCommand | unknownCommand | badLength | range | notAttached | state | noSuch
  | notOwner | duplicate | quota | tableFull | mode | inUse | notInUse | empty | sequence | expired
  | claimed | notClaimed | busy | configInvalid | sensorNack
deriving DecidableEq, Repr

/-- An answer: a status and its result bytes (Table 9-2). -/
structure Response where
  status : Status
  results : List Byte
deriving DecidableEq, Repr

/-- The response buffer (R145, R146). A PENDING buffer holds the command it waits for, named by the serial
number the port gave it, or waits for a detach that no command began (R149). -/
inductive Buffer where
  | empty
  | pending (command : Nat)
  | pendingDetach
  | ready (response : Response)
deriving DecidableEq, Repr

/-- A command handed on to its owning block and not yet taken by it (R144, R152). `stale` marks that a
detach of the port has begun since. `left` is what remains, in µs, of the 20 µs of R147. -/
structure Handed where
  serial : Nat
  code : CommandCode
  args : List Byte
  stale : Bool
  left : Nat
deriving DecidableEq, Repr

/-- An answer made and not yet in the response buffer (R147). -/
structure AnswerInTransit where
  serial : Nat
  response : Response
  left : Nat
deriving DecidableEq, Repr

/-- The notice kinds of R157. -/
inductive NoticeKind where
  | requestActive | requestWaiting | displaced | suspended | done | cancelled | rebuildDone | swapped
  | tuneDone | tuneFailed | tuneAborted | profileOrphaned | claimExpired | engineStarted
  | engineStopped | engineHalted | noticeLost
deriving DecidableEq, Repr

/-- An entry of a notice queue (R154). -/
structure Notice where
  kind : NoticeKind
  subject : Nat
  detail : Nat
deriving DecidableEq, Repr

/-- The steps of a detach that are still to come after its first (R149, steps 2 to 6). -/
inductive DetachStep where
  | requests | profiles | records | direct | claim
deriving DecidableEq, Repr

/-- A detach under way (R149): its next step, the DETACH command it will answer (absent after an HRST pulse,
R150, R151), and what remains, in µs, of its 100 µs. -/
structure Detach where
  next : DetachStep
  answers : Option Nat
  left : Nat
deriving DecidableEq, Repr

/-- An SPI transaction under way, by how far it has come (R141, R146, R151). Its select is low. -/
inductive Transfer where
  /-- Select has fallen: the status byte sampled then is to be shifted out during the direction byte. -/
  | opened (status : Byte)
  /-- A command transaction, with the whole bytes received after its direction byte. -/
  | command (received : List Byte)
  /-- A response read, with what is left of its response frame. -/
  | response (rest : List Byte)
  /-- A status poll. -/
  | poll
  /-- Abandoned by an HRST pulse: 00h is shifted out for the rest of it (R151). -/
  | abandoned
  /-- Its select fell while HRSTn or RESET was low: ignored to its end (R151, R160). -/
  | ignored
deriving DecidableEq, Repr

/-- A host port (R141 to R160). `select` is the transaction under way, if select is low; `shiftedOut` is what
the port has shifted out in it, or in the last one, the status byte first. -/
structure Port where
  attached : Bool
  buffer : Buffer
  discarded : Bool
  notices : List Notice
  mask : Nat
  detaching : Option Detach
  hrstLow : Bool
  handed : List Handed
  answers : List AnswerInTransit
  nextSerial : Nat
  select : Option Transfer
  shiftedOut : List Byte
deriving DecidableEq, Repr

/-! ### Request Manager (Chapter 1) -/

/-- The kind of a request; count and occasions done are present for a BURST only (R1, R4). -/
inductive RequestKind where
  | stream
  | burst (count done : Nat)
deriving DecidableEq, Repr

/-- The state of a request; the current phase is present only while ACTIVE (Table 1-2, R1). -/
inductive RequestState where
  | pending
  | waiting
  | active (phase : Nat)
  | suspended
deriving DecidableEq, Repr

/-- An entry of the request table that holds a live request (Table 1-1). -/
structure Request where
  owner : HostId
  tag : Nat
  kind : RequestKind
  profile : Fin 16
  period : Nat
  preferredPhase : Nat
  priority : Nat
  missLimit : Nat
  misses : Nat
  sequence : BitVec 32
  state : RequestState
deriving DecidableEq, Repr

/-- The request table and the admission sequence counter (R1 to R3). The 32 entries have no order a host
can see: the table is the list of its live requests, oldest admission first; the other entries are free. -/
structure RequestManager where
  table : List Request
  counter : BitVec 32
deriving DecidableEq, Repr

/-! ### Profile Manager (Chapter 2) and the loop state Exposure Control keeps (Chapter 5) -/

/-- PRIVATE (the owner's requests alone) or SHARED. -/
inductive Sharing where
  | ownerOnly
  | shared
deriving DecidableEq, Repr

/-- LIVE with its owner, or ORPHANED without one (Table 2-1). -/
inductive Life where
  | live (owner : HostId)
  | orphaned
deriving DecidableEq, Repr

/-- The loop state of a profile (R88). -/
structure Loop where
  converge : Nat
  tuneFrames : Nat
deriving DecidableEq, Repr

/-- The mode of a profile (R87); the loop state is present in AUTO and TUNING only (R88). -/
inductive Mode where
  | manual
  | auto (loop : Loop)
  | tuning (loop : Loop)
deriving DecidableEq, Repr

/-- A window in pixels of the sensor area (R25). -/
structure Window where
  x : Nat
  y : Nat
  width : Nat
  height : Nat
deriving DecidableEq, Repr

/-- One element of a step list: exposure shift and gain offset (R26). -/
structure BracketStep where
  shift : Int
  offset : Int
deriving DecidableEq, Repr

/-- An entry of the profile table that holds a profile (Table 2-1); its id is the entry's number. -/
structure Profile where
  sharing : Sharing
  life : Life
  mode : Mode
  baseExposure : Nat
  baseGain : Nat
  exposureMin : Nat
  exposureMax : Nat
  gainMin : Nat
  gainMax : Nat
  target : Nat
  tolerance : Nat
  window : Window
  steps : List BracketStep
  references : Nat
deriving DecidableEq, Repr

/-! ### Calendar (Chapter 3) -/

/-- A (host, tag) pair of a subscriber list. -/
structure Subscriber where
  host : HostId
  tag : Nat
deriving DecidableEq, Repr

/-- A slot entry (R42). -/
inductive Slot where
  | idle
  | assigned (profile : Fin 16) (step : Nat) (subscribers : List Subscriber)
deriving DecidableEq, Repr

/-- A candidate as the snapshot of a build holds it (R47). -/
structure Candidate where
  owner : HostId
  tag : Nat
  profile : Fin 16
  stepCount : Nat
  period : Nat
  preferredPhase : Nat
  priority : Nat
  sequence : BitVec 32
  state : RequestState
deriving DecidableEq, Repr

/-- A placed candidate with its phase (R50). -/
structure Placed where
  owner : HostId
  tag : Nat
  phase : Nat
deriving DecidableEq, Repr

/-- A complete shadow calendar (R51). Its cycle length is the number of its slots. -/
structure Shadow where
  slots : List Slot
  placed : List Placed
  unplaced : Nat
deriving DecidableEq, Repr

/-- The builder (Table 3-1, R52). A build under way holds its snapshot, the stale mark and what remains, in
µs, of the bound of R51. -/
inductive Builder where
  | idle
  | building (snapshot : List Candidate) (stale : Bool) (left : Nat)
  | ready (shadow : Shadow)
deriving DecidableEq, Repr

/-- The Calendar: the active calendar, whose cycle length is the number of its slots (R42), the builder with
the shadow, and the generation counter (R43). -/
structure Calendar where
  active : List Slot
  builder : Builder
  generation : BitVec 16
deriving DecidableEq, Repr

/-! ### Frame Sequencer (Chapter 4) -/

/-- The Sensor Link's answer to a setup (Table 4-1). -/
inductive LinkResult where
  | none
  | complete
  | failed
deriving DecidableEq, Repr

/-- The reasons of a drop (Table 4-3). -/
inductive DropReason where
  | late
  | link
  | stall
  | halt
deriving DecidableEq, Repr

/-- The outcome of a frame, fixed at its close. -/
inductive FrameOutcome where
  | normal
  | dropped (reason : DropReason)
deriving DecidableEq, Repr

/-- The statistics of a frame (R106). -/
structure Statistics where
  mean : Nat
  histogram : Vector Nat 8
  clipShare : Nat
deriving DecidableEq, Repr

/-- A frame context (Table 4-1). -/
structure FrameContext where
  slotIndex : Nat
  generation : BitVec 16
  profile : Fin 16
  stepIndex : Nat
  subscribers : List Subscriber
  exposure : Nat
  gain : Nat
  window : Window
  linkResult : LinkResult
  frameNumber : Option (BitVec 32)
  triggerTime : Option (BitVec 32)
  clamped : Bool
  tuning : Bool
  sizeMismatch : Bool
  outcome : Option FrameOutcome
  statistics : Option Statistics
deriving DecidableEq, Repr

/-- The states of a context in the next-slot place (Table 4-2). -/
inductive NextState where
  | setup
  | armed
deriving DecidableEq, Repr

/-- The context in the next-slot place, with the serial number that names its setup (R74). -/
structure NextFrame where
  state : NextState
  setup : Nat
  context : FrameContext
deriving DecidableEq, Repr

/-- The states of a context in the present-slot place (Table 4-2). CLOSED lasts only within a happening. -/
inductive PresentState where
  | exposing
  | readout
deriving DecidableEq, Repr

/-- The context in the present-slot place. -/
structure PresentFrame where
  state : PresentState
  context : FrameContext
deriving DecidableEq, Repr

/-- The slot position (R67). -/
inductive SlotPosition where
  | absent
  | beforeSlot0
  | slot (index : Nat)
deriving DecidableEq, Repr

/-- The Frame Sequencer (R66 to R86). The timers hold what remains in µs and are absent while stopped;
`nextIndex` is the next index worked out at the last setup point (R67), `setupDone` says that the setup
point of this slot has fallen (R72), and `trigger` is what remains, in µs, of the pulse on TRIG. -/
structure Sequencer where
  slotTimer : Option Nat
  position : SlotPosition
  nextIndex : Nat
  setupDone : Bool
  next : Option NextFrame
  present : Option PresentFrame
  exposureTimer : Option Nat
  frameNumber : BitVec 32
  linkFailures : Nat
  stallFailures : Nat
  nextSetup : Nat
  trigger : Nat
deriving DecidableEq, Repr

/-! ### Frame Pass (Chapter 6) -/

/-- The accumulators of Table 6-1. -/
structure Accumulators where
  pixelCount : Nat
  levelSum : Nat
  bins : Vector Nat 8
  clipCount : Nat
  lineCount : Nat
  lengthFault : Bool
deriving DecidableEq, Repr

/-- Frame Pass and its states (R103); it holds the accumulators and the 64 header bytes of the frame it
serves. `cut` says, in TAKING, that the last line was cut at the happening that is to end TAKING (R105), and
in WAITING_END that the stray frame start which ended TAKING so cut a line short (R107). -/
inductive FramePass where
  | idle
  | taking (acc : Accumulators) (header : List Byte) (cut : Bool)
  | waitingEnd (acc : Accumulators) (header : List Byte) (cut : Bool)
deriving DecidableEq, Repr

/-- The video output: its frame-valid signal and the line last sent in the output frame under way. -/
structure VideoOutput where
  frameValid : Bool
  line : List Pixel
deriving DecidableEq, Repr

/-! ### Sensor Link (Chapter 7) -/

/-- The six parameter kinds, in the fixed order of R115. -/
inductive ParamKind where
  | exposure | gain | cropX | cropY | cropW | cropH
deriving DecidableEq, Repr

/-- One value for each parameter kind. -/
structure PerKind (α : Type) where
  exposure : α
  gain : α
  cropX : α
  cropY : α
  cropW : α
  cropH : α
deriving DecidableEq, Repr

/-- The sensor description (Table 7-1): I2C address, size in pixels, readout time in µs, line time in ns. -/
structure SensorDescription where
  address : BitVec 7
  width : Nat
  height : Nat
  readout : Nat
  lineTime : Nat
deriving DecidableEq, Repr

/-- An entry of the sensor map (R115). -/
structure MapEntry where
  register : BitVec 16
  count : Nat
deriving DecidableEq, Repr

/-- What a transaction does after its register address: send data bytes (R121) or receive some (R124). -/
inductive TransactionData where
  | write (bytes : List Byte)
  | read (count : Nat)
deriving DecidableEq, Repr

/-- A transaction on the I2C bus, with what remains, in µs, of the longest it can take (R121, R124). -/
structure Transaction where
  address : BitVec 7
  register : BitVec 16
  data : TransactionData
  left : Nat
deriving DecidableEq, Repr

/-- An element of a write list (R120): the kind, its fitted value, and the map entry it goes to. -/
structure RegisterWrite where
  kind : ParamKind
  value : Nat
  register : BitVec 16
  count : Nat
deriving DecidableEq, Repr

/-- The work of one setup (R120): the writes still to be made, the first being the one in hand; whether that
one is at its retry (R122); the transaction on the bus, if any; and what remains, in µs, of the time within
which the next transaction begins (R121). -/
structure SetupWork where
  setup : Nat
  writes : List RegisterWrite
  retry : Bool
  bus : Option Transaction
  left : Nat
deriving DecidableEq, Repr

/-- The operation of a direct command (R124, R125). -/
inductive DirectOp where
  | read (register : BitVec 16) (count : Nat)
  | write (register : BitVec 16) (bytes : List Byte)
deriving DecidableEq, Repr

/-- A direct command: its port, its serial number there, and its operation. -/
structure DirectCommand where
  port : HostId
  serial : Nat
  op : DirectOp
deriving DecidableEq, Repr

/-- The work of one direct command (R124, R125). -/
structure DirectWork where
  command : DirectCommand
  retry : Bool
  bus : Option Transaction
  left : Nat
deriving DecidableEq, Repr

/-- The transaction of ended work on the bus (R123, R126), and the kind and value it records in the shadow;
none for a direct command, and none once a START has been taken since it began (R118). -/
structure DrainWork where
  bus : Transaction
  records : Option (ParamKind × Nat)
deriving DecidableEq, Repr

/-- The states of the Sensor Link (R119). -/
inductive LinkState where
  | idle
  | setup (work : SetupWork)
  | direct (work : DirectWork)
  | draining (work : DrainWork)
deriving DecidableEq, Repr

/-- A setup as the Frame Sequencer hands it (R73). -/
structure SetupRequest where
  setup : Nat
  exposure : Nat
  gain : Nat
  window : Window
deriving DecidableEq, Repr

/-- The one piece of work that can wait for a drain (R119). -/
inductive WaitingWork where
  | setup (request : SetupRequest)
  | direct (command : DirectCommand)
deriving DecidableEq, Repr

/-- The Sensor Link (R114, R115, R118, R119). In the shadow, none is the mark unknown. -/
structure SensorLink where
  description : SensorDescription
  map : PerKind MapEntry
  shadow : PerKind (Option Nat)
  state : LinkState
  waiting : Option WaitingWork
deriving DecidableEq, Repr

/-! ### Delivery (Chapter 8) -/

/-- A record (Table 8-1). LOSS is set exactly when the lost count is present. -/
structure Record where
  frameNumber : BitVec 32
  generation : BitVec 16
  slotIndex : Nat
  profile : Fin 16
  stepIndex : Nat
  tags : List Nat
  exposure : Nat
  gain : Nat
  outcome : FrameOutcome
  clamped : Bool
  tuning : Bool
  sizeMismatch : Bool
  lost : Option Nat
  statistics : Option Statistics
  arrival : BitVec 32
deriving DecidableEq, Repr

/-- A host's record queue and its companions (R130). The hold limit is in ms, 0 for none. -/
structure Mailbox where
  queue : List Record
  pendingLoss : Nat
  lastDiscarded : BitVec 32
  holdLimit : Nat
deriving DecidableEq, Repr

/-- Delivery: the four record queues and the record clock (R129). -/
structure Delivery where
  boxes : PerHost Mailbox
  clock : BitVec 32
deriving DecidableEq, Repr

/-! ### Engine Control (Chapter 10) -/

/-- The engine states (R167). -/
inductive EngineState where
  | stopped | running | stopping | halted
deriving DecidableEq, Repr

/-- The fault code (R167). -/
inductive FaultCode where
  | none | sensorLink | sensorStall
deriving DecidableEq, Repr

/-- The configuration claim while it is held: the holder and what remains on the claim timer, in µs (R161,
R162). -/
structure Claim where
  holder : HostId
  timer : Nat
deriving DecidableEq, Repr

/-- A host's quotas (R166). -/
structure Quota where
  requests : Nat
  profiles : Nat
deriving DecidableEq, Repr

/-- Engine Control (R161 to R170). `stopWaiting` is the STOP command, by port and serial number, that waits
for the frame in flight (R169). Slot period in µs, claim expiry in ms. -/
structure Engine where
  state : EngineState
  fault : FaultCode
  slotPeriod : Nat
  claimExpiry : Nat
  quotas : PerHost Quota
  claim : Option Claim
  stopWaiting : Option (HostId × Nat)
deriving DecidableEq, Repr

/-! ### The part -/

/-- The state of the part. `pending` is the queue of the commands that wait, first in, first out;
`resetHeld` says that the RESET pin is low (R160); `freeIndex` is the MODEL's own counter, which numbers the
free values it has used (assumption 9). -/
structure State where
  pending : List Instr
  ports : PerHost Port
  requests : RequestManager
  profiles : Vector (Option Profile) 16
  calendar : Calendar
  sequencer : Sequencer
  framePass : FramePass
  videoOut : VideoOutput
  link : SensorLink
  delivery : Delivery
  engine : Engine
  resetHeld : Bool
  freeIndex : Nat
deriving DecidableEq, Repr

/-- The reasons a step can stop with a fault. There is none: the part itself never stops, and its own
faults, SENSOR_LINK and SENSOR_STALL, are state (R167). -/
inductive Fault where
deriving DecidableEq, Repr

/-- The reasons a step can be refused. -/
inductive Refusal where
  /-- Raised by `exec` for a command that has no meaning yet. No command is left so. Safe: a refused step
  has no next state, so nothing can be proved of one. -/
  | notModelled (mnemonic : String)
deriving DecidableEq, Repr

/-! ### Power-on -/

/-- A port at power-on (R160). -/
def Port.atReset : Port :=
  { attached := false, buffer := .empty, discarded := false, notices := [], mask := 0,
    detaching := none, hrstLow := false, handed := [], answers := [], nextSerial := 0,
    select := none, shiftedOut := [] }

/-- A host's record queue at power-on (R140). -/
def Mailbox.atReset : Mailbox :=
  { queue := [], pendingLoss := 0, lastDiscarded := 0, holdLimit := 0 }

/-- The quotas of a host at power-on (R166). -/
def Quota.atReset : Quota := { requests := 8, profiles := 4 }

/-- An entry of the sensor map at power-on (R115). -/
def MapEntry.atReset : MapEntry := { register := 0, count := 0 }

/-- The machine right after reset: every block in the state its chapter gives for power-on, the RESET pin
high again (assumption 2), no command waiting. R160, R3, R24, R44, R66, R67, R71, R81, R86, R103, R114,
R115, R118, R119, R140, R161, R164, R166, R167. -/
def State.reset : State :=
  { pending := []
    ports := ⟨.atReset, .atReset, .atReset, .atReset⟩
    requests := { table := [], counter := 0 }
    profiles := Vector.replicate 16 none
    calendar := { active := [.idle], builder := .idle, generation := 0 }
    sequencer :=
      { slotTimer := none, position := .absent, nextIndex := 0, setupDone := false, next := none,
        present := none, exposureTimer := none, frameNumber := 0, linkFailures := 0,
        stallFailures := 0, nextSetup := 0, trigger := 0 }
    framePass := .idle
    videoOut := { frameValid := false, line := [] }
    link :=
      { description :=
          { address := 0x36, width := 1280, height := 960, readout := 16000, lineTime := 16700 }
        map := ⟨.atReset, .atReset, .atReset, .atReset, .atReset, .atReset⟩
        shadow := ⟨none, none, none, none, none, none⟩
        state := .idle
        waiting := none }
    delivery := { boxes := ⟨.atReset, .atReset, .atReset, .atReset⟩, clock := 0 }
    engine :=
      { state := .stopped, fault := .none, slotPeriod := 33333, claimExpiry := 5000,
        quotas := ⟨.atReset, .atReset, .atReset, .atReset⟩, claim := none, stopWaiting := none }
    resetHeld := false
    freeIndex := 0 }

end Sys2Proof.Machine
end

