-- ==== Sys2Proof/Machine/Operands.lean ====
section
/-! DEFINITION. The arguments of the host commands: reading multi-byte fields (most significant byte first,
0.6), and one reader for each form of arguments, which answers none where the argument length or an argument
lies outside its range (RANGE). Ranges that depend on the state are the commands' own checks. -/

namespace Sys2Proof.Machine

/-- The number a run of bytes spells, most significant byte first (0.6). -/
def beNat (bytes : List Byte) : Nat := bytes.foldl (fun n b => n * 256 + b.toNat) 0

/-- The `n` bytes of a number, most significant first (0.6). -/
def beBytes : Nat → Nat → List Byte
  | 0, _ => []
  | n + 1, v => BitVec.ofNat 8 (v / 256 ^ n) :: beBytes n v

/-- The number in the `len` argument bytes from byte `at`. -/
def field (args : List Byte) (start len : Nat) : Nat := beNat ((args.drop start).take len)

/-- A signed byte (Table 2-3): two's complement. -/
def signedByte (b : Byte) : Int := b.toInt

/-- The byte of a signed value. -/
def ofSigned (v : Int) : Byte := BitVec.ofInt 8 v

/-- A profile id, 0 to 15. -/
def asProfileId (n : Nat) : Option (Fin 16) := if h : n < 16 then some ⟨n, h⟩ else none

/-- A host number, 0 to 3. -/
def asHost : Nat → Option HostId
  | 0 => some .h0
  | 1 => some .h1
  | 2 => some .h2
  | 3 => some .h3
  | _ => none

/-- A parameter kind, 0 to 5 (R116). -/
def asParamKind : Nat → Option ParamKind
  | 0 => some .exposure
  | 1 => some .gain
  | 2 => some .cropX
  | 3 => some .cropY
  | 4 => some .cropW
  | 5 => some .cropH
  | _ => none

/-- `a` where the condition holds. -/
def guardSome {α : Type} (c : Bool) (a : α) : Option α := if c then some a else none

/-- Commands without arguments: the argument length is 0. -/
def noArgs (args : List Byte) : Option Unit := guardSome (args.length == 0) ()

/-- The seven values a period may take (Table 1-1). -/
def isPeriod (p : Nat) : Bool :=
  p == 1 || p == 2 || p == 4 || p == 8 || p == 16 || p == 32 || p == 64

/-- The arguments of SUBMIT (Table 1-3). -/
structure SubmitArgs where
  tag : Nat
  kind : RequestKind
  profile : Fin 16
  period : Nat
  preferredPhase : Nat
  priority : Nat
  missLimit : Nat
deriving DecidableEq, Repr

/-- SUBMIT: nine bytes, each argument in its range, a count of 0 for a STREAM and of 1 or more for a BURST
(R8, Table 1-3). -/
def submitArgs (args : List Byte) : Option SubmitArgs :=
  let tag := field args 0 1
  let kind := field args 1 1
  let period := field args 3 1
  let phase := field args 4 1
  let priority := field args 5 1
  let missLimit := field args 6 1
  let count := field args 7 2
  match asProfileId (field args 2 1) with
  | none => none
  | some profile =>
    guardSome
      (args.length == 9 && 1 ≤ tag && kind ≤ 1 && isPeriod period && phase ≤ 63 && priority ≤ 3
        && missLimit ≤ 15 && (if kind == 0 then count == 0 else 1 ≤ count))
      { tag := tag
        kind := if kind == 0 then .stream else .burst count 0
        profile := profile
        period := period
        preferredPhase := phase
        priority := priority
        missLimit := missLimit }

/-- One tag, 1 to 255 (R11, R12, R13, R14). -/
def tagArg (args : List Byte) : Option Nat :=
  guardSome (args.length == 1 && 1 ≤ field args 0 1) (field args 0 1)

/-- One profile id (R28, R30, R31, R90). -/
def profileArg (args : List Byte) : Option (Fin 16) :=
  if args.length == 1 then asProfileId (field args 0 1) else none

/-- An exposure in its range (Table 2-1). -/
def exposureInRange (e : Nat) : Bool := 10 ≤ e && e ≤ 1000000

/-- A gain in its range (Table 2-1). -/
def gainInRange (g : Nat) : Bool := 16 ≤ g && g ≤ 256

/-- SET_EXPOSURE: id, base exposure, base gain (R32). -/
def setExposureArgs (args : List Byte) : Option (Fin 16 × Nat × Nat) :=
  match asProfileId (field args 0 1) with
  | none => none
  | some id =>
    guardSome
      (args.length == 7 && exposureInRange (field args 1 4) && gainInRange (field args 5 2))
      (id, field args 1 4, field args 5 2)

/-- The bounds SET_LIMITS sets (R33). -/
structure Limits where
  exposureMin : Nat
  exposureMax : Nat
  gainMin : Nat
  gainMax : Nat
deriving DecidableEq, Repr

/-- SET_LIMITS: id and the four bounds, each in its range, no minimum above its maximum (R33). -/
def setLimitsArgs (args : List Byte) : Option (Fin 16 × Limits) :=
  let eMin := field args 1 4
  let eMax := field args 5 4
  let gMin := field args 9 2
  let gMax := field args 11 2
  match asProfileId (field args 0 1) with
  | none => none
  | some id =>
    guardSome
      (args.length == 13 && exposureInRange eMin && exposureInRange eMax && gainInRange gMin
        && gainInRange gMax && eMin ≤ eMax && gMin ≤ gMax)
      (id, { exposureMin := eMin, exposureMax := eMax, gainMin := gMin, gainMax := gMax })

/-- SET_TARGET: id, target level, tolerance (R34). -/
def setTargetArgs (args : List Byte) : Option (Fin 16 × Nat × Nat) :=
  let target := field args 1 2
  let tolerance := field args 3 1
  match asProfileId (field args 0 1) with
  | none => none
  | some id =>
    guardSome
      (args.length == 4 && 64 ≤ target && target ≤ 960 && 4 ≤ tolerance && tolerance ≤ 128)
      (id, target, tolerance)

/-- The window rule of R25, for a sensor of the given size. -/
def Window.valid (w : Window) (sensorWidth sensorHeight : Nat) : Bool :=
  w.x % 16 == 0 && w.width % 16 == 0 && w.y % 8 == 0 && w.height % 8 == 0 && 64 ≤ w.width
    && 8 ≤ w.height && w.x + w.width ≤ sensorWidth && w.y + w.height ≤ sensorHeight

/-- SET_WINDOW: id and a window that is valid by R25 for the sensor size in force (R35, assumption 8). -/
def setWindowArgs (sensorWidth sensorHeight : Nat) (args : List Byte) : Option (Fin 16 × Window) :=
  let w : Window :=
    { x := field args 1 2, y := field args 3 2, width := field args 5 2, height := field args 7 2 }
  match asProfileId (field args 0 1) with
  | none => none
  | some id => guardSome (args.length == 9 && w.valid sensorWidth sensorHeight) (id, w)

/-- A step in range (R26). -/
def BracketStep.inRange (t : BracketStep) : Bool :=
  -3 ≤ t.shift && t.shift ≤ 3 && -64 ≤ t.offset && t.offset ≤ 64

/-- The pairs of shift and offset in a run of bytes, one signed byte each (R36). -/
def stepPairs : List Byte → List BracketStep
  | shift :: offset :: rest =>
    { shift := signedByte shift, offset := signedByte offset } :: stepPairs rest
  | _ => []

/-- SET_STEPS: id, step count n of 1 to 4, then n pairs; the argument length is 2 + 2n (R36). -/
def setStepsArgs (args : List Byte) : Option (Fin 16 × List BracketStep) :=
  let n := field args 1 1
  let steps := stepPairs (args.drop 2)
  match asProfileId (field args 0 1) with
  | none => none
  | some id =>
    guardSome (1 ≤ n && n ≤ 4 && args.length == 2 + 2 * n && steps.all BracketStep.inRange) (id, steps)

/-- SHARE: id and the sharing, 0 PRIVATE or 1 SHARED (R37). -/
def shareArgs (args : List Byte) : Option (Fin 16 × Sharing) :=
  match asProfileId (field args 0 1) with
  | none => none
  | some id =>
    guardSome (args.length == 2 && field args 1 1 ≤ 1)
      (id, if field args 1 1 == 0 then .ownerOnly else .shared)

/-- The mode SET_MODE can ask for (R89). -/
inductive AskedMode where
  | manual
  | auto
deriving DecidableEq, Repr

/-- SET_MODE: id and the mode, 0 MANUAL or 1 AUTO (R89). -/
def setModeArgs (args : List Byte) : Option (Fin 16 × AskedMode) :=
  match asProfileId (field args 0 1) with
  | none => none
  | some id =>
    guardSome (args.length == 2 && field args 1 1 ≤ 1)
      (id, if field args 1 1 == 0 then .manual else .auto)

/-- READ_SLOT: the calendar, 0 active or 1 shadow, and the slot index, 0 to 63 (R64). -/
def readSlotArgs (args : List Byte) : Option (Bool × Nat) :=
  guardSome (args.length == 2 && field args 0 1 ≤ 1 && field args 1 1 ≤ 63)
    (field args 0 1 == 1, field args 1 1)

/-- ACK_RECORD: a frame number of 4 bytes (R135). -/
def ackArg (args : List Byte) : Option (BitVec 32) :=
  guardSome (args.length == 4) (BitVec.ofNat 32 (field args 0 4))

/-- SET_HOLD: a limit in ms, 0 or 10 to 5,000 (R137). -/
def holdArg (args : List Byte) : Option Nat :=
  let limit := field args 0 2
  guardSome (args.length == 2 && (limit == 0 || (10 ≤ limit && limit ≤ 5000))) limit

/-- SET_ATTENTION: a mask of 0 to 7 (R159). -/
def maskArg (args : List Byte) : Option Nat :=
  guardSome (args.length == 1 && field args 0 1 ≤ 7) (field args 0 1)

/-- One item of the configuration with its new value (Table 10-1). -/
inductive ConfigItem where
  | slotPeriod (us : Nat)
  | claimExpiry (ms : Nat)
  | address (a : BitVec 7)
  | width (pixels : Nat)
  | height (pixels : Nat)
  | readout (us : Nat)
  | lineTime (ns : Nat)
deriving DecidableEq, Repr

/-- SET_CONFIG: the item code, then the value in the item's byte count, in the item's range, multiples
included (R164, Table 10-1). -/
def configArgs (args : List Byte) : Option ConfigItem :=
  let v := beNat (args.drop 1)
  match args with
  | [] => none
  | code :: value =>
    match code.toNat with
    | 0 => guardSome (value.length == 4 && 1000 ≤ v && v ≤ 1000000) (.slotPeriod v)
    | 1 => guardSome (value.length == 2 && 100 ≤ v && v ≤ 60000) (.claimExpiry v)
    | 2 => guardSome (value.length == 1 && v ≤ 0x7F) (.address (BitVec.ofNat 7 v))
    | 3 => guardSome (value.length == 2 && 64 ≤ v && v ≤ 4096 && v % 16 == 0) (.width v)
    | 4 => guardSome (value.length == 2 && 8 ≤ v && v ≤ 4096 && v % 8 == 0) (.height v)
    | 5 => guardSome (value.length == 4 && 100 ≤ v && v ≤ 500000) (.readout v)
    | 6 => guardSome (value.length == 4 && 1000 ≤ v && v ≤ 100000) (.lineTime v)
    | _ => none

/-- SET_QUOTA: host, request quota, profile quota (R166, check 2). -/
def quotaArgs (args : List Byte) : Option (HostId × Quota) :=
  match asHost (field args 0 1) with
  | none => none
  | some host =>
    guardSome (args.length == 3 && field args 1 1 ≤ 32 && field args 2 1 ≤ 16)
      (host, { requests := field args 1 1, profiles := field args 2 1 })

/-- SENSOR_READ: register address and byte count, 1 to 3 (R124). -/
def sensorReadArgs (args : List Byte) : Option DirectOp :=
  guardSome (args.length == 3 && 1 ≤ field args 2 1 && field args 2 1 ≤ 3)
    (.read (BitVec.ofNat 16 (field args 0 2)) (field args 2 1))

/-- SENSOR_WRITE: register address and 1 to 3 data bytes (R125). -/
def sensorWriteArgs (args : List Byte) : Option DirectOp :=
  guardSome (3 ≤ args.length && args.length ≤ 5)
    (.write (BitVec.ofNat 16 (field args 0 2)) (args.drop 2))

/-- SET_MAP: kind, register address, byte count of 0 to 3 (R116). -/
def setMapArgs (args : List Byte) : Option (ParamKind × MapEntry) :=
  match asParamKind (field args 0 1) with
  | none => none
  | some kind =>
    guardSome (args.length == 4 && field args 3 1 ≤ 3)
      (kind, { register := BitVec.ofNat 16 (field args 1 2), count := field args 3 1 })

end Sys2Proof.Machine
end

