-- ==== Sys2Proof/Machine/Flags.lean ====
section
/-! DEFINITION. The codes and flag bytes a host or a receiver sees: status codes, notice codes, state codes,
the port status byte, the ATN line, the record flags and the header flags. -/

namespace Sys2Proof.Machine

/-- The value held for a host. -/
def PerHost.get {α : Type} (v : PerHost α) : HostId → α
  | .h0 => v.h0
  | .h1 => v.h1
  | .h2 => v.h2
  | .h3 => v.h3

/-- The value held for a host, replaced. -/
def PerHost.set {α : Type} (v : PerHost α) (h : HostId) (a : α) : PerHost α :=
  match h with
  | .h0 => { v with h0 := a }
  | .h1 => { v with h1 := a }
  | .h2 => { v with h2 := a }
  | .h3 => { v with h3 := a }

/-- The value held for a parameter kind. -/
def PerKind.get {α : Type} (v : PerKind α) : ParamKind → α
  | .exposure => v.exposure
  | .gain => v.gain
  | .cropX => v.cropX
  | .cropY => v.cropY
  | .cropW => v.cropW
  | .cropH => v.cropH

/-- The value held for a parameter kind, replaced. -/
def PerKind.set {α : Type} (v : PerKind α) (k : ParamKind) (a : α) : PerKind α :=
  match k with
  | .exposure => { v with exposure := a }
  | .gain => { v with gain := a }
  | .cropX => { v with cropX := a }
  | .cropY => { v with cropY := a }
  | .cropW => { v with cropW := a }
  | .cropH => { v with cropH := a }

/-- The status codes of Table 9-3. -/
def Status.toByte : Status → Byte
  | .ok => 0x00
  | .wait => 0x02
  | .noCommand => 0x03
  | .unknownCommand => 0x04
  | .badLength => 0x05
  | .range => 0x06
  | .notAttached => 0x07
  | .state => 0x08
  | .noSuch => 0x09
  | .notOwner => 0x0A
  | .duplicate => 0x0B
  | .quota => 0x0C
  | .tableFull => 0x0D
  | .mode => 0x0E
  | .inUse => 0x0F
  | .notInUse => 0x10
  | .empty => 0x11
  | .sequence => 0x12
  | .expired => 0x13
  | .claimed => 0x14
  | .notClaimed => 0x15
  | .busy => 0x16
  | .configInvalid => 0x17
  | .sensorNack => 0x18

/-- The notice codes of R157. -/
def NoticeKind.toByte : NoticeKind → Byte
  | .requestActive => 0x01
  | .requestWaiting => 0x02
  | .displaced => 0x03
  | .suspended => 0x04
  | .done => 0x05
  | .cancelled => 0x06
  | .rebuildDone => 0x07
  | .swapped => 0x08
  | .tuneDone => 0x09
  | .tuneFailed => 0x0A
  | .tuneAborted => 0x0B
  | .profileOrphaned => 0x0C
  | .claimExpired => 0x0D
  | .engineStarted => 0x0E
  | .engineStopped => 0x0F
  | .engineHalted => 0x10
  | .noticeLost => 0x11

/-- The engine state in GET_STATUS and in the answer of STOP (R153, R169). -/
def EngineState.code : EngineState → Nat
  | .stopped => 0
  | .running => 1
  | .stopping => 2
  | .halted => 3

/-- The fault code in GET_STATUS and in ENGINE_HALTED (R153, R157). -/
def FaultCode.code : FaultCode → Nat
  | .none => 0
  | .sensorLink => 1
  | .sensorStall => 2

/-- The state of a request in QUERY_REQUEST and LIST_REQUESTS (R13, R14). -/
def RequestState.code : RequestState → Nat
  | .pending => 0
  | .waiting => 1
  | .active _ => 2
  | .suspended => 3

/-- The builder state in REBUILD and GET_CALENDAR_INFO (R63, R65). -/
def Builder.code : Builder → Nat
  | .idle => 0
  | .building _ _ _ => 1
  | .ready _ => 2

/-- The drop reason in FETCH_RECORD (Table 8-2). -/
def FrameOutcome.reasonCode : FrameOutcome → Nat
  | .normal => 0
  | .dropped .late => 1
  | .dropped .link => 2
  | .dropped .stall => 3
  | .dropped .halt => 4

/-- A frame that was dropped, whatever the reason. -/
def FrameOutcome.isDropped : FrameOutcome → Bool
  | .normal => false
  | .dropped _ => true

/-- A flag at a bit of a byte. -/
def bit (position : Nat) (flag : Bool) : Nat := if flag then 2 ^ position else 0

/-- The response buffer is READY. -/
def Buffer.isReady : Buffer → Bool
  | .ready _ => true
  | _ => false

/-- The response buffer is PENDING, for a command or for a detach. -/
def Buffer.isPending : Buffer → Bool
  | .pending _ => true
  | .pendingDetach => true
  | _ => false

/-- The host holds the configuration claim (R161). -/
def State.holdsClaim (s : State) (h : HostId) : Bool :=
  match s.engine.claim with
  | some c => c.holder == h
  | none => false

/-- The port status byte (R142). -/
def statusByte (s : State) (h : HostId) : Byte :=
  let p := s.ports.get h
  BitVec.ofNat 8
    (bit 0 p.buffer.isReady + bit 1 p.buffer.isPending + bit 2 (!p.notices.isEmpty)
      + bit 3 (!(s.delivery.boxes.get h).queue.isEmpty) + bit 4 p.discarded + bit 5 p.attached
      + bit 6 (s.holdsClaim h) + bit 7 (s.engine.state == .halted))

/-- The ATN line of a port is active (R158). -/
def atn (s : State) (h : HostId) : Bool :=
  let p := s.ports.get h
  (p.mask.testBit 0 && !p.notices.isEmpty)
    || (p.mask.testBit 1 && !(s.delivery.boxes.get h).queue.isEmpty)
    || (p.mask.testBit 2 && p.buffer.isReady)

/-- The TRIG line is active: the pulse of a trigger is under way (R77, Table 9-8). -/
def trig (s : State) : Bool := 0 < s.sequencer.trigger

/-- The flags byte of a record (Table 8-2). -/
def recordFlags (r : Record) : Nat :=
  bit 0 r.outcome.isDropped + bit 1 r.clamped + bit 2 r.sizeMismatch + bit 3 r.tuning
    + bit 4 r.lost.isSome

/-- The flags byte of the header line (R111). -/
def headerFlags (clamped tuning : Bool) : Nat := bit 0 clamped + bit 1 tuning

/-- The subscriber host mask of the header line (R111): a bit for each host that appears in a pair. -/
def hostMask (subscribers : List Subscriber) : Nat :=
  bit 0 (subscribers.any (·.host == .h0)) + bit 1 (subscribers.any (·.host == .h1))
    + bit 2 (subscribers.any (·.host == .h2)) + bit 3 (subscribers.any (·.host == .h3))

end Sys2Proof.Machine
end

