-- ==== Sys2Proof/Machine/Ops.lean ====
section
/-! DEFINITION. The operations the commands share: the sizes of the tables, access to the ports, queues and
tables, posting a notice, taking a command and answering it, freeing a request, and asking for a rebuild. -/

namespace Sys2Proof.Machine

/-! ### Sizes and fixed times -/

/-- The request table has 32 entries (R1). -/
def requestEntries : Nat := 32

/-- A record queue holds at most 8 records (R130). -/
def recordQueueSize : Nat := 8

/-- A notice queue holds at most 16 entries, of which the last is kept for NOTICE_LOST (R154). -/
def noticeQueueSize : Nat := 16

/-- A subscriber list holds at most 4 pairs (R42). -/
def subscriberLimit : Nat := 4

/-- The guard of every slot, in µs (R40). -/
def guard : Nat := 100

/-- A command is answered within 20 µs (R147). -/
def answerTime : Nat := 20

/-- A detach ends within 100 µs (R149). -/
def detachTime : Nat := 100

/-- A build of n candidates completes within 200 + 40·n µs (R51). -/
def buildTime (candidates : Nat) : Nat := 200 + 40 * candidates

/-- The first transaction of a setup begins within 200 µs of take-up (R121). -/
def firstWriteTime : Nat := 200

/-- Every later transaction begins within 20 µs of the stop of the one before (R121). -/
def nextWriteTime : Nat := 20

/-- The pulse on TRIG lasts 10 µs (Table 9-8). -/
def triggerTime : Nat := 10

/-- A counter that saturates at `top` raised by one (0.6 "Arithmetic"). -/
def saturatingSucc (top n : Nat) : Nat := if n < top then n + 1 else top

/-- A value held within a and b (0.6 "Arithmetic"). -/
def heldWithin (a b v : Nat) : Nat := if v < a then a else if b < v then b else v

/-- The four hosts in ascending number. -/
def allHosts : List HostId := [.h0, .h1, .h2, .h3]

/-- The sixteen profile ids in ascending order. -/
def allProfileIds : List (Fin 16) := List.finRange 16

/-! ### Access to the blocks -/

/-- The port of a host. -/
def State.port (s : State) (h : HostId) : Port := s.ports.get h

/-- The state with the port of a host replaced. -/
def State.setPort (s : State) (h : HostId) (p : Port) : State := { s with ports := s.ports.set h p }

/-- The record queue of a host and its companions. -/
def State.mailbox (s : State) (h : HostId) : Mailbox := s.delivery.boxes.get h

/-- The state with the record queue of a host and its companions replaced. -/
def State.setMailbox (s : State) (h : HostId) (m : Mailbox) : State :=
  { s with delivery.boxes := s.delivery.boxes.set h m }

/-- The profile an id names, if its entry holds one. -/
def State.profile (s : State) (id : Fin 16) : Option Profile := s.profiles[id]

/-- The state with an entry of the profile table replaced; none frees it. -/
def State.setProfile (s : State) (id : Fin 16) (p : Option Profile) : State :=
  { s with profiles := s.profiles.set id p }

/-- The state with the next-slot place replaced. -/
def State.setNext (s : State) (f : Option NextFrame) : State := { s with sequencer.next := f }

/-- The state with the state of the Sensor Link replaced. -/
def State.setLinkState (s : State) (l : LinkState) : State := { s with link.state := l }

/-- The state with the request table replaced. -/
def State.setTable (s : State) (table : List Request) : State := { s with requests.table := table }

/-! ### Requests -/

/-- The request is the one its owner and tag name (R1). -/
def Request.named (h : HostId) (tag : Nat) (r : Request) : Bool := r.owner == h && r.tag == tag

def RequestState.isActive : RequestState → Bool
  | .active _ => true
  | _ => false

/-- The request has a place in the active calendar. -/
def Request.isActive (r : Request) : Bool := r.state.isActive

/-- A request in PENDING, WAITING or ACTIVE is a candidate (section 1.2). -/
def Request.isCandidate (r : Request) : Bool := r.state != .suspended

/-- The live request of an owner and a tag, if there is one. -/
def State.request (s : State) (h : HostId) (tag : Nat) : Option Request :=
  s.requests.table.find? (Request.named h tag)

/-- The state with the live request of an owner and a tag changed. -/
def State.updateRequest (s : State) (h : HostId) (tag : Nat) (f : Request → Request) : State :=
  s.setTable (s.requests.table.map fun r => if r.named h tag then f r else r)

/-- The live requests of a host. -/
def State.requestsOf (s : State) (h : HostId) : List Request :=
  s.requests.table.filter (·.owner == h)

/-- Some request of some host is WAITING (R7). -/
def State.anyWaiting (s : State) : Bool := s.requests.table.any (·.state == .waiting)

/-- Some ACTIVE request references the profile (R90, R100). -/
def State.hasActiveUser (s : State) (id : Fin 16) : Bool :=
  s.requests.table.any fun r => r.profile == id && r.isActive

/-- The step count of a profile (R26); 0 for an entry that holds none. -/
def State.stepCount (s : State) (id : Fin 16) : Nat :=
  match s.profile id with
  | some p => p.steps.length
  | none => 0

/-- The LIVE profiles a host owns (R29). -/
def State.profilesOwned (s : State) (h : HostId) : Nat :=
  allProfileIds.countP fun id =>
    match s.profile id with
    | some p => p.life == .live h
    | none => false

/-! ### Notices (R154, R155) -/

/-- What a notice queue becomes when a notice is posted to it (the table of R154). -/
def joinNotice (queue : List Notice) (n : Notice) : List Notice :=
  match queue.getLast? with
  | some last =>
    if last.kind = .noticeLost then
      queue.dropLast ++ [{ last with subject := saturatingSucc 65535 last.subject }]
    else if queue.length + 1 < noticeQueueSize then queue ++ [n]
    else queue ++ [{ kind := .noticeLost, subject := 1, detail := 0 }]
  | none => [n]

/-- A notice posted to a port: dropped at a DETACHED port, else taken by its queue (R154, R155). -/
def postNotice (h : HostId) (n : Notice) (s : State) : State :=
  let p := s.port h
  if p.attached then s.setPort h { p with notices := joinNotice p.notices n } else s

/-- A notice posted to every attached host, in ascending port number (R155). -/
def postToAll (n : Notice) (s : State) : State :=
  allHosts.foldl (fun s h => postNotice h n s) s

/-! ### Commands and answers (R144 to R147, R152) -/

/-- An answer with a status and no results. -/
def Response.refusal (status : Status) : Response := { status := status, results := [] }

/-- What an owning block makes of a command: its answer, or none while the response stays PENDING, and the
state it leaves. -/
structure Reply where
  answer : Option Response
  state : State

/-- The command is refused with a status and changes nothing. -/
def refuse (status : Status) (s : State) : Reply := { answer := some (.refusal status), state := s }

/-- The command is answered OK with results. -/
def accept (results : List Byte) (s : State) : Reply :=
  { answer := some { status := .ok, results := results }, state := s }

/-- The command is accepted and its response stays PENDING (R147). -/
def acceptPending (s : State) : Reply := { answer := none, state := s }

/-- An owning block's answer sets out for the port's response buffer (R147). -/
def sendAnswer (h : HostId) (serial left : Nat) (r : Response) (s : State) : State :=
  let p := s.port h
  s.setPort h
    { p with answers := p.answers ++ [{ serial := serial, response := r, left := left }] }

/-- An answer reaches the response buffer: READY if the buffer is PENDING for the command it answers, and
dropped in any other state (R147). -/
def deliverAnswer (h : HostId) (serial : Nat) (r : Response) (s : State) : State :=
  let p := s.port h
  if p.buffer = .pending serial then s.setPort h { p with buffer := .ready r } else s

/-- The first command of a kind that the port has handed on and its owner has not yet taken. -/
def Port.waitingCommand (p : Port) (c : CommandCode) : Option Handed :=
  p.handed.find? (·.code == c)

/-- The port without that command. -/
def Port.withoutCommand (p : Port) (c : CommandCode) : Port :=
  { p with handed := p.handed.eraseP (·.code == c) }

/-- The owning block takes the command handed to it and answers it (R144, R147). Where no such command
waits, the happening does not fall (assumption 3). -/
def takeCommand (c : CommandCode) (h : HostId) (run : Handed → State → Reply) (s : State) : State :=
  match (s.port h).waitingCommand c with
  | none => s
  | some cmd =>
    let reply := run cmd (s.setPort h ((s.port h).withoutCommand c))
    match reply.answer with
    | some r => sendAnswer h cmd.serial cmd.left r reply.state
    | none => reply.state

/-- The attach check every command but ATTACH and GET_STATUS makes first (NOT_ATTACHED). A command handed
on before a detach of the port began, and taken after, finds the port DETACHED (R152). -/
def ifAttached (h : HostId) (run : Handed → State → Reply) (cmd : Handed) (s : State) : Reply :=
  if (s.port h).attached && !cmd.stale then run cmd s else refuse .notAttached s

/-- The check of length and ranges of the arguments (RANGE). -/
def ifRange {α : Type} (parsed : Option α) (s : State) (run : α → Reply) : Reply :=
  match parsed with
  | some a => run a
  | none => refuse .range s

/-! ### Rebuilds (R47, R52) -/

/-- The snapshot of the candidates a build begins with (R47). -/
def snapshot (s : State) : List Candidate :=
  (s.requests.table.filter Request.isCandidate).map fun r =>
    { owner := r.owner
      tag := r.tag
      profile := r.profile
      stepCount := s.stepCount r.profile
      period := r.period
      preferredPhase := r.preferredPhase
      priority := r.priority
      sequence := r.sequence
      state := r.state }

/-- A build begins with a new snapshot, not stale (R47, R52). -/
def beginBuild (s : State) : State :=
  { s with calendar.builder := .building (snapshot s) false (buildTime (snapshot s).length) }

/-- A trigger acts on the builder according to its state (R52). -/
def trigger (s : State) : State :=
  match s.calendar.builder with
  | .idle => beginBuild s
  | .building snap _ left => { s with calendar.builder := .building snap true left }
  | .ready _ => beginBuild s

/-- The rebuild R7 calls for when a request has left the calendar: the request was ACTIVE, and some request
is WAITING once the leaving is complete. -/
def rebuildIfWaiting (leftActive : Bool) (s : State) : State :=
  if leftActive && s.anyWaiting then trigger s else s

/-! ### Leaving the calendar and freeing an entry (R5, R6, R59, R100) -/

/-- A slot entry without a pair; left without pairs, it becomes idle (R59). -/
def Slot.without (pair : Subscriber) : Slot → Slot
  | .idle => .idle
  | .assigned profile step subscribers =>
    match subscribers.filter (· != pair) with
    | [] => .idle
    | rest => .assigned profile step rest

/-- The removal of R59: the pair leaves every slot of the active calendar in which it stands. -/
def removePair (pair : Subscriber) (s : State) : State :=
  { s with calendar.active := s.calendar.active.map (Slot.without pair) }

/-- An ACTIVE request leaves the active calendar; any other has no subscription in it (R5). -/
def leaveCalendar (r : Request) (s : State) : State :=
  if r.isActive then removePair { host := r.owner, tag := r.tag } s else s

/-- The reference count of a profile falls by one; an ORPHANED profile whose count reaches 0 is freed
within the same happening (R27). -/
def lowerReference (id : Fin 16) (s : State) : State :=
  match s.profile id with
  | none => s
  | some p =>
    if p.life = .orphaned ∧ p.references - 1 = 0 then s.setProfile id none
    else s.setProfile id (some { p with references := p.references - 1 })

/-- The reference count of a profile rises by one (R27). -/
def raiseReference (id : Fin 16) (s : State) : State :=
  match s.profile id with
  | none => s
  | some p => s.setProfile id (some { p with references := p.references + 1 })

/-- The entry of a request is cleared and its profile's reference count lowered (R6). -/
def clearEntry (r : Request) (s : State) : State :=
  lowerReference r.profile (s.setTable (s.requests.table.filter fun q => !q.named r.owner r.tag))

/-- Freeing an entry: first out of the calendar if the request was ACTIVE, then cleared (R6). -/
def freeEntry (r : Request) (s : State) : State := clearEntry r (leaveCalendar r s)

/-- The tune of a profile in TUNING that has no ACTIVE request left is aborted: MANUAL with the values
reached, and TUNE_ABORTED to the owner (R100). -/
def abortTune (id : Fin 16) (s : State) : State :=
  match s.profile id with
  | none => s
  | some p =>
    match p.mode with
    | .tuning loop =>
      if s.hasActiveUser id then s
      else
        let t := s.setProfile id (some { p with mode := .manual })
        match p.life with
        | .live owner =>
          postNotice owner { kind := .tuneAborted, subject := id.val, detail := loop.tuneFrames } t
        | .orphaned => t
    | _ => s

/-- Exposure Control is told that a request has been taken out of ACTIVE (R100). -/
def tellLeft (r : Request) (s : State) : State := if r.isActive then abortTune r.profile s else s

/-- Suspension (R20), without the rebuild: the request leaves the calendar if it was ACTIVE, becomes
SUSPENDED and keeps everything else, and its owner is told with the consecutive misses as detail. -/
def suspend (r : Request) (s : State) : State :=
  tellLeft r
    (postNotice r.owner { kind := .suspended, subject := r.tag, detail := r.misses }
      ((leaveCalendar r s).updateRequest r.owner r.tag fun q => { q with state := .suspended }))

/-! ### Miss and acknowledgement reports (R18 to R21) -/

/-- One tag of a miss report (R19): the live request's consecutive misses rise by one, saturating at 255,
and it is suspended where they now equal a miss limit other than 0. Answers also whether a request left
ACTIVE. -/
def chargeMiss (h : HostId) (acc : State × Bool) (tag : Nat) : State × Bool :=
  match acc.1.request h tag with
  | none => acc
  | some r =>
    let charged := { r with misses := saturatingSucc 255 r.misses }
    let s := acc.1.updateRequest h tag fun _ => charged
    if charged.misses = charged.missLimit ∧ charged.missLimit ≠ 0 ∧ charged.state ≠ .suspended then
      (suspend charged s, acc.2 || charged.isActive)
    else (s, acc.2)

/-- A miss report for a host and the served tags of a record: one happening, at most one rebuild (R19,
R20). DEDUCED: R7's WAITING test is made, and the one trigger raised, once, after the last suspension of the
report (assumption 27). -/
def missReport (h : HostId) (tags : List Nat) (s : State) : State :=
  let r := tags.foldl (chargeMiss h) (s, false)
  rebuildIfWaiting r.2 r.1

/-- An acknowledgement report: the consecutive misses of the live requests named become 0 (R21). -/
def acknowledgementReport (h : HostId) (tags : List Nat) (s : State) : State :=
  tags.foldl (fun s tag => s.updateRequest h tag fun r => { r with misses := 0 }) s

end Sys2Proof.Machine
end

