-- ==== Sys2Proof/Machine/Build.lean ====
section
/-! DEFINITION. The work of the calendar builder on its snapshot (R47 to R51): the order of the candidates,
their start phases, the phases tried, the slots occupied, and the shadow that results. -/

namespace Sys2Proof.Machine

/-- The build's order: priority class ascending, then admission sequence ascending (R48, R15). -/
abbrev orderedBefore (class₁ : Nat) (seq₁ : BitVec 32) (class₂ : Nat) (seq₂ : BitVec 32) : Prop :=
  class₁ < class₂ ∨ (class₁ = class₂ ∧ seq₁ ≤ seq₂)

/-- The candidates of a snapshot in the build's order (R48). -/
def buildOrder (candidates : List Candidate) : List Candidate :=
  candidates.insertionSort fun a b => orderedBefore a.priority a.sequence b.priority b.sequence

/-- The cycle length of a build: the largest period among its candidates, or 1 (R47). -/
def buildLength (candidates : List Candidate) : Nat :=
  candidates.foldl (fun n c => max n c.period) 1

/-- The start phase: the current phase of an ACTIVE candidate; else the preferred phase modulo P, or 0 where
that exceeds P − k (R49). -/
def startPhase (c : Candidate) : Nat :=
  match c.state with
  | .active phase => phase
  | _ =>
    let v := c.preferredPhase % c.period
    if c.period < v + c.stepCount then 0 else v

/-- The phases tried, in order: from the start phase up to P − k, then from 0 up to one below it (R50). -/
def phasesTried (c : Candidate) : List Nat :=
  List.range' (startPhase c) (c.period + 1 - c.stepCount - startPhase c)
    ++ List.range (startPhase c)

/-- The slots a request occupies at a phase, each with the step index it would give the slot (R45). -/
def occupied (length period phase stepCount : Nat) : List (Nat × Nat) :=
  (List.range (length / period)).flatMap fun j =>
    (List.range stepCount).map fun i => (j * period + phase + i, i)

/-- A slot can take a subscriber of a profile at a step: it is idle, or holds that profile and step with
fewer than 4 subscribers (R50). -/
def Slot.takes (profile : Fin 16) (step : Nat) : Slot → Bool
  | .idle => true
  | .assigned p i subscribers =>
    p == profile && i == step && decide (subscribers.length < subscriberLimit)

/-- The slot at an index can take a subscriber of a profile at a step. -/
def slotTakes (slots : List Slot) (profile : Fin 16) (at' : Nat × Nat) : Bool :=
  match slots[at'.1]? with
  | some slot => slot.takes profile at'.2
  | none => false

/-- A phase fits when every slot the request would occupy can take it (R50). -/
def phaseFits (slots : List Slot) (c : Candidate) (phase : Nat) : Bool :=
  (occupied slots.length c.period phase c.stepCount).all (slotTakes slots c.profile)

/-- A slot with a subscriber added at the end of its list; an idle slot is given the profile and step
(R50). -/
def Slot.withSubscriber (profile : Fin 16) (step : Nat) (pair : Subscriber) : Slot → Slot
  | .idle => .assigned profile step [pair]
  | .assigned p i subscribers => .assigned p i (subscribers ++ [pair])

/-- The slots with a candidate placed at a phase (R50). -/
def placeAt (slots : List Slot) (c : Candidate) (phase : Nat) : List Slot :=
  (occupied slots.length c.period phase c.stepCount).foldl
    (fun acc at' =>
      acc.modify at'.1 (Slot.withSubscriber c.profile at'.2 { host := c.owner, tag := c.tag }))
    slots

/-- One candidate is placed at the first phase that fits, or left unplaced (R50). -/
def placeCandidate (sh : Shadow) (c : Candidate) : Shadow :=
  match (phasesTried c).find? (phaseFits sh.slots c) with
  | some phase =>
    { sh with
      slots := placeAt sh.slots c phase
      placed := sh.placed ++ [{ owner := c.owner, tag := c.tag, phase := phase }] }
  | none => { sh with unplaced := sh.unplaced + 1 }

/-- The result of a build: the candidates of the snapshot placed one at a time into a shadow of the largest
period, all idle at first (R47, R48, R51). -/
def buildShadow (candidates : List Candidate) : Shadow :=
  (buildOrder candidates).foldl placeCandidate
    { slots := List.replicate (buildLength candidates) .idle, placed := [], unplaced := 0 }

end Sys2Proof.Machine
end

