-- ==== Sys2Proof/Machine/Swap.lean ====
section
/-! DEFINITION. The swap (R55, R56, R15, R58): the shadow becomes the active calendar, stale pairs leave it,
the candidates take their states and their owners their notices. -/

namespace Sys2Proof.Machine

/-- A pair names a request now in PENDING, WAITING or ACTIVE (R56). -/
def namesCandidate (s : State) (host : HostId) (tag : Nat) : Bool :=
  match s.request host tag with
  | some r => r.isCandidate
  | none => false

/-- A slot of the new calendar without the pairs that name no candidate; left empty, it becomes idle
(R56). -/
def Slot.cleaned (s : State) : Slot → Slot
  | .idle => .idle
  | .assigned profile step subscribers =>
    match subscribers.filter (fun p => namesCandidate s p.host p.tag) with
    | [] => .idle
    | rest => .assigned profile step rest

/-- The phase at which the new calendar places a request, if it does (R15). -/
def placedPhase (placed : List Placed) (r : Request) : Option Nat :=
  (placed.find? fun p => p.owner == r.owner && p.tag == r.tag).map (·.phase)

/-- The notice of Table 1-5 for a request, by its state before and whether it is placed. -/
def swapNotice : RequestState → Option Nat → Option NoticeKind
  | .pending, some _ => some .requestActive
  | .waiting, some _ => some .requestActive
  | .pending, none => some .requestWaiting
  | .active _, none => some .displaced
  | _, _ => none

/-- The state of Table 1-5 for a candidate, by whether it is placed. -/
def swapState : Option Nat → RequestState
  | some phase => .active phase
  | none => .waiting

/-- One candidate takes its state and its owner its notice (R15, Table 1-5). -/
def setSwapState (placed : List Placed) (s : State) (r : Request) : State :=
  let phase := placedPhase placed r
  let t := s.updateRequest r.owner r.tag fun q => { q with state := swapState phase }
  match swapNotice r.state phase with
  | some kind => postNotice r.owner { kind := kind, subject := r.tag, detail := 0 } t
  | none => t

/-- The candidates of the table in the build's order (R15). -/
def candidatesInOrder (s : State) : List Request :=
  (s.requests.table.filter Request.isCandidate).insertionSort fun a b =>
    orderedBefore a.priority a.sequence b.priority b.sequence

/-- The states of every candidate are set in the build's order; then the tunes that have lost their last
ACTIVE user are aborted, once (R15, R100), in ascending profile id (assumption 6). -/
def setSwapStates (placed : List Placed) (s : State) : State :=
  allProfileIds.foldl (fun t id => abortTune id t)
    ((candidatesInOrder s).foldl (setSwapState placed) s)

/-- The swap of R55: steps 1 to 5. The placed candidates handed to the Request Manager are those still
candidates, since `setSwapStates` sets the states of candidates alone (step 3). -/
def swap (sh : Shadow) (s : State) : State :=
  let active := sh.slots.map (Slot.cleaned s)
  let generation := s.calendar.generation + 1
  let t := setSwapStates sh.placed
    { s with calendar := { s.calendar with active := active, generation := generation } }
  postToAll
    { kind := .swapped, subject := generation.toNat, detail := active.length }
    { t with calendar.builder := .idle }

end Sys2Proof.Machine
end

