-- ==== Sys2Proof/Machine/CalendarCommands.lean ====
section
/-! DEFINITION. The commands that reach the Calendar (R63 to R65) and the end of a build (R53). -/

namespace Sys2Proof.Machine

/-- REBUILD raises a trigger and returns the builder state before it (R63). -/
def rebuild (cmd : Handed) (s : State) : Reply :=
  ifRange (noArgs cmd.args) s fun _ => accept (beBytes 1 s.calendar.builder.code) (trigger s)

/-- REBUILD (R63). -/
def execRebuild (h : HostId) (s : State) : Host.Outcome State Fault Refusal :=
  .next (takeCommand .rebuild h (ifAttached h rebuild) s)

/-- The result bytes of READ_SLOT for a slot of a calendar (Table 3-2). -/
def slotResults (generation : BitVec 16) (length index : Nat) : Slot → List Byte
  | .idle =>
    beBytes 2 generation.toNat ++ beBytes 1 length ++ beBytes 1 index ++ [0, 0xFF, 0xFF, 0]
  | .assigned profile step subscribers =>
    beBytes 2 generation.toNat ++ beBytes 1 length ++ beBytes 1 index ++ [1]
      ++ beBytes 1 profile.val ++ beBytes 1 step ++ beBytes 1 subscribers.length
      ++ subscribers.flatMap fun p => beBytes 1 p.host.number ++ beBytes 1 p.tag

/-- One slot of a calendar, refused RANGE at or beyond its cycle length (R64). -/
def readSlotOf (generation : BitVec 16) (slots : List Slot) (index : Nat) (s : State) : Reply :=
  match slots[index]? with
  | some slot => accept (slotResults generation slots.length index slot) s
  | none => refuse .range s

/-- READ_SLOT: the active calendar, or the shadow if the builder is READY (R64). -/
def readSlot (cmd : Handed) (s : State) : Reply :=
  ifRange (readSlotArgs cmd.args) s fun a =>
    if a.1 then
      match s.calendar.builder with
      | .ready sh => readSlotOf (s.calendar.generation + 1) sh.slots a.2 s
      | _ => refuse .state s
    else readSlotOf s.calendar.generation s.calendar.active a.2 s

/-- READ_SLOT (R64). -/
def execReadSlot (h : HostId) (s : State) : Host.Outcome State Fault Refusal :=
  .next (takeCommand .readSlot h (ifAttached h readSlot) s)

/-- A slot that holds a profile, a step and subscribers. -/
def Slot.isAssigned : Slot → Bool
  | .idle => false
  | .assigned _ _ _ => true

/-- The 12 result bytes of GET_CALENDAR_INFO (Table 3-3). -/
def calendarResults (s : State) : List Byte :=
  let count (code : Nat) : Nat := s.requests.table.countP (·.state.code == code)
  let stale := match s.calendar.builder with
    | .building _ mark _ => mark
    | _ => false
  beBytes 2 s.calendar.generation.toNat ++ beBytes 1 s.calendar.active.length
    ++ beBytes 1 (s.calendar.active.countP Slot.isAssigned)
    ++ beBytes 1 s.calendar.builder.code ++ beBytes 1 (bit 0 stale)
    ++ (match s.calendar.builder with
      | .ready sh => beBytes 1 sh.slots.length ++ beBytes 1 sh.unplaced
      | _ => [0xFF, 0xFF])
    ++ beBytes 1 (count 0) ++ beBytes 1 (count 1) ++ beBytes 1 (count 2) ++ beBytes 1 (count 3)

/-- GET_CALENDAR_INFO (R65). -/
def execGetCalendarInfo (h : HostId) (s : State) : Host.Outcome State Fault Refusal :=
  .next
    (takeCommand .getCalendarInfo h
      (ifAttached h fun cmd t =>
        ifRange (noArgs cmd.args) t fun _ => accept (calendarResults t) t) s)

/-- The host owns a request that was a candidate of the build and is still live (R53). -/
def ownsCandidate (s : State) (snapshot : List Candidate) (h : HostId) : Bool :=
  snapshot.any fun c =>
    c.owner == h && s.requests.table.any fun r => r.named h c.tag && r.sequence == c.sequence

/-- The end of a build not marked stale: READY with its shadow, and REBUILD_DONE to each attached host that
owns a candidate still live, in ascending host number (R53). -/
def buildReady (snapshot : List Candidate) (s : State) : State :=
  let sh := buildShadow snapshot
  allHosts.foldl
    (fun t h =>
      if ownsCandidate s snapshot h then
        postNotice h
          { kind := .rebuildDone
            subject := (s.calendar.generation + 1).toNat
            detail := sh.slots.length } t
      else t)
    { s with calendar.builder := .ready sh }

/-- BUILD_COMPLETE (R53): a stale build is discarded and a new one begins at once; else the builder goes to
READY. Without a build under way, the happening does not fall (assumption 3). -/
def execBuildComplete (s : State) : Host.Outcome State Fault Refusal :=
  match s.calendar.builder with
  | .building snapshot stale _ => .next (if stale then beginBuild s else buildReady snapshot s)
  | _ => .next s

end Sys2Proof.Machine
end

