-- ==== Sys2Proof/Config.lean ====
section
/-! DEFINITION. What the handbook leaves open and no command decides: the free values of the model. Each is
a constant without a body, applied to the model's own counter `State.freeIndex`, so that nothing can be
proved about its value. -/

namespace Sys2Proof.Config

/-- FREE VALUE (assumption 9). A line cut because Frame Pass leaves TAKING while it is still arriving is
measured and forwarded as far as it was received (R105); the handbook does not say whether the line count
counts it. -/
opaque cutLineCounted : Nat → Bool

/-- FREE VALUE (assumption 9). Nor does it say whether a line cut so sets the length fault: whether its length is
judged at all, and if it is, whether by the pixels received before the cut or by the whole run that the sensor
sends (6.1, R105). -/
opaque cutLineFaults : Nat → Bool

end Sys2Proof.Config
end

