-- ==== Sys2Proof/Machine/Delivery.lean ====
section
/-! DEFINITION. Delivery (Chapter 8): the order of frame numbers, records composed at a close, records that
join a queue, are lost to a full queue, or are discarded at the hold limit. -/

namespace Sys2Proof.Machine

/-- Frame number a is higher than frame number b, through the wrap of the counter; 0 stands for none, every
other number is higher than 0, and 0 is higher than no number (R130). -/
def higher (a b : BitVec 32) : Bool :=
  if a = 0 then false
  else if b = 0 then true
  else decide (1 ≤ (a - b).toNat) && decide ((a - b).toNat ≤ 2147483647)

/-- The last discarded frame number takes a number that is higher (R133, R136). -/
def Mailbox.noteLost (m : Mailbox) (number : BitVec 32) : Mailbox :=
  { m with
    pendingLoss := saturatingSucc 255 m.pendingLoss
    lastDiscarded := if higher number m.lastDiscarded then number else m.lastDiscarded }

/-- The age of a record, counted through the wrap of the record clock, in µs (R129). -/
def Record.age (clock : BitVec 32) (r : Record) : Nat := (clock - r.arrival).toNat

/-- The hold of a record has run out: a hold limit other than 0, in ms, has passed since its arrival
(R136). -/
def Record.holdOver (limit : Nat) (clock : BitVec 32) (r : Record) : Bool :=
  limit != 0 && decide (limit * 1000 ≤ r.age clock)

/-- The tags of a host in a subscriber list for which it has a live request at this moment, in list order
(R131). -/
def servedTags (s : State) (h : HostId) (subscribers : List Subscriber) : List Nat :=
  (subscribers.filter fun p => p.host == h && (s.request h p.tag).isSome).map (·.tag)

/-- The record of a closed frame for a host, before it joins a queue (R128, R131): statistics only when the
outcome is normal. -/
def composedRecord (context : FrameContext) (outcome : FrameOutcome) (tags : List Nat) : Record :=
  { frameNumber := context.frameNumber.getD 0
    generation := context.generation
    slotIndex := context.slotIndex
    profile := context.profile
    stepIndex := context.stepIndex
    tags := tags
    exposure := context.exposure
    gain := context.gain
    outcome := outcome
    clamped := context.clamped
    tuning := context.tuning
    sizeMismatch := context.sizeMismatch
    lost := none
    statistics := if outcome.isDropped then none else context.statistics
    arrival := 0 }

/-- A record joins a queue with room at its tail, with its arrival time, and with LOSS where records were
lost since the last that joined (R132). -/
def Mailbox.join (m : Mailbox) (clock : BitVec 32) (r : Record) : Mailbox :=
  { m with
    queue := m.queue ++
      [{ r with
          lost := if m.pendingLoss = 0 then none else some m.pendingLoss
          arrival := clock }]
    pendingLoss := 0 }

/-- A record offered to a host's queue: it joins, or finds the queue full, is lost and charged as a miss
(R132, R133, R138). -/
def offerRecord (h : HostId) (r : Record) (s : State) : State :=
  let m := s.mailbox h
  if m.queue.length < recordQueueSize then s.setMailbox h (m.join s.delivery.clock r)
  else missReport h r.tags (s.setMailbox h (m.noteLost r.frameNumber))

/-- One host's record of a closed frame: none where no tag is kept (R131). -/
def composeRecord (context : FrameContext) (outcome : FrameOutcome) (s : State) (h : HostId) : State :=
  match servedTags s h context.subscribers with
  | [] => s
  | tags => offerRecord h (composedRecord context outcome tags) s

/-- Step 1 of a close: the hosts in ascending number, each once (R131). -/
def composeRecords (context : FrameContext) (outcome : FrameOutcome) (s : State) : State :=
  allHosts.foldl (composeRecord context outcome) s

/-- A record discarded at the hold limit: it leaves the queue from where it stands, the loss is noted and
charged as a miss (R136, R138). -/
def discardRecord (h : HostId) (s : State) (r : Record) : State :=
  let m := s.mailbox h
  missReport h r.tags
    (s.setMailbox h ({ m with queue := m.queue.erase r }.noteLost r.frameNumber))

end Sys2Proof.Machine
end

