-- ==== Sys2Proof/Machine/Exposure.lean ====
section
/-! DEFINITION. Applied values (R40) and Exposure Control's loop (Chapter 5): qualifying frames, the
judgement, the adjustment, and the end of a tune. -/

namespace Sys2Proof.Machine

/-- The slot budget: slot period less readout time less the guard (R40). -/
def slotBudget (s : State) : Nat := s.engine.slotPeriod - s.link.description.readout - guard

/-- The base exposure multiplied by 2 to the shift, a division rounded down where it is negative (R40). -/
def shiftedExposure (base : Nat) (shift : Int) : Nat :=
  if 0 ≤ shift then base * 2 ^ shift.toNat else base / 2 ^ (-shift).toNat

/-- The applied exposure: held within 10 µs and the slot budget (R40). -/
def appliedExposure (budget base : Nat) (t : BracketStep) : Nat :=
  heldWithin 10 budget (shiftedExposure base t.shift)

/-- CLAMPED: the exposure before holding exceeds the slot budget (R40). -/
def isClamped (budget base : Nat) (t : BracketStep) : Bool :=
  decide (budget < shiftedExposure base t.shift)

/-- The applied gain: the sum held within 16 and 256 (R40). -/
def appliedGain (base : Nat) (t : BracketStep) : Nat :=
  heldWithin 16 256 ((base : Int) + t.offset).toNat

/-- The values of a frame are those R40 would give for step 0 of the profile now (R91, condition 4). -/
def presentValues (budget : Nat) (p : Profile) (context : FrameContext) : Bool :=
  match p.steps with
  | [] => false
  | t :: _ =>
    context.exposure == appliedExposure budget p.baseExposure t
      && context.gain == appliedGain p.baseGain t

/-- A qualifying frame for a profile in a loop: step 0, a normal outcome without SIZE_MISMATCH, and the
present values (R91, conditions 2 to 4). -/
def qualifies (budget : Nat) (p : Profile) (context : FrameContext) (outcome : FrameOutcome) : Bool :=
  context.stepIndex == 0 && outcome == .normal && !context.sizeMismatch
    && presentValues budget p context

/-- The difference between two levels, taken without sign (R93). -/
def levelDifference (m t : Nat) : Nat := (m - t) + (t - m)

/-- The frame is on target (R93). -/
def onTarget (p : Profile) (mean : Nat) : Bool :=
  decide (levelDifference mean p.target ≤ p.tolerance)

/-- The wanted product, held within one half and two times the present product (R94). -/
def wantedProduct (p : Profile) (mean : Nat) : Nat :=
  let product := p.baseExposure * p.baseGain
  heldWithin (product / 2) (2 * product)
    (product * p.target / (if mean = 0 then 1 else mean))

/-- The upper exposure bound of an adjustment (R94). -/
def exposureUpper (budget : Nat) (p : Profile) : Nat :=
  max p.exposureMin (min p.exposureMax budget)

/-- The new base exposure and base gain of a brightening: exposure first, gain second (R95). DEDUCED: where the
wanted product equals E·G and E lies outside its bounds, the gain is the quotient by the new exposure, not G
(assumption 25). -/
def brightened (budget : Nat) (p : Profile) (wanted : Nat) : Nat × Nat :=
  let e := heldWithin p.exposureMin (exposureUpper budget p) (wanted / p.baseGain)
  (e, heldWithin p.gainMin p.gainMax (wanted / e))

/-- The new base exposure and base gain of a darkening: gain first, exposure second (R96). -/
def darkened (budget : Nat) (p : Profile) (wanted : Nat) : Nat × Nat :=
  let g := heldWithin p.gainMin p.gainMax (wanted / p.baseExposure)
  (heldWithin p.exposureMin (exposureUpper budget p) (wanted / g), g)

/-- The adjustment of a profile to the mean of a frame off target (R94 to R96). -/
def adjusted (budget : Nat) (p : Profile) (mean : Nat) : Profile :=
  let wanted := wantedProduct p mean
  let new :=
    if p.baseExposure * p.baseGain ≤ wanted then brightened budget p wanted
    else darkened budget p wanted
  { p with baseExposure := new.1, baseGain := new.2 }

/-- What a judgement in TUNING leaves of the tune: the converge count after R93, and the tune frames count
raised by one (R97). -/
def tunedLoop (loop : Loop) (hit : Bool) : Loop :=
  { converge := if hit then loop.converge + 1 else 0, tuneFrames := loop.tuneFrames + 1 }

/-- The end of a tune: MANUAL with the values reached, and the notice to the owner with the tune frames
count as detail (R98). -/
def endTune (id : Fin 16) (p : Profile) (kind : NoticeKind) (tuneFrames : Nat) (s : State) : State :=
  let t := s.setProfile id (some { p with mode := .manual })
  match p.life with
  | .live owner => postNotice owner { kind := kind, subject := id.val, detail := tuneFrames } t
  | .orphaned => t

/-- The loop step of a qualifying frame in AUTO (R93). -/
def stepAuto (id : Fin 16) (p : Profile) (mean : Nat) (s : State) : State :=
  if onTarget p mean then s else s.setProfile id (some (adjusted (slotBudget s) p mean))

/-- The loop step of a qualifying frame in TUNING, with the counting and the end of a tune (R93, R97,
R98). -/
def stepTuning (id : Fin 16) (p : Profile) (loop : Loop) (mean : Nat) (s : State) : State :=
  let hit := onTarget p mean
  let q := if hit then p else adjusted (slotBudget s) p mean
  let loop' := tunedLoop loop hit
  if 3 ≤ loop'.converge then endTune id q .tuneDone loop'.tuneFrames s
  else if 32 ≤ loop'.tuneFrames then endTune id q .tuneFailed loop'.tuneFrames s
  else s.setProfile id (some { q with mode := .tuning loop' })

/-- Step 2 of a close: Exposure Control judges the frame for the profile that holds the context's id now,
or passes it over (R91, R92). -/
def judgeFrame (context : FrameContext) (outcome : FrameOutcome) (s : State) : State :=
  match s.profile context.profile with
  | none => s
  | some p =>
    if qualifies (slotBudget s) p context outcome then
      let mean := match context.statistics with
        | some x => x.mean
        | none => 0
      match p.mode with
      | .manual => s
      | .auto _ => stepAuto context.profile p mean s
      | .tuning loop => stepTuning context.profile p loop mean s
    else s

end Sys2Proof.Machine
end

