-- ==== Sys2Proof/Machine/LinkOps.lean ====
section
/-! DEFINITION. The work of the Sensor Link (Chapter 7): register values, the write list, taking up a setup,
beginning a transaction, answering and ending a setup, direct commands, and drains. -/

namespace Sys2Proof.Machine

/-! ### Register values (R117) -/

/-- A quotient of whole numbers rounded up. -/
def ceilDiv (a b : Nat) : Nat := (a + b - 1) / b

/-- A value fitted to a byte count: kept below 256 to the power b, else all ones (R117). -/
def fitted (count value : Nat) : Nat := if value < 256 ^ count then value else 256 ^ count - 1

/-- The register value of a kind before it is fitted (R117). -/
def registerValue (lineTime : Nat) (r : SetupRequest) : ParamKind → Nat
  | .exposure => max 1 (ceilDiv (r.exposure * 1000) lineTime)
  | .gain => r.gain
  | .cropX => r.window.x
  | .cropY => r.window.y
  | .cropW => r.window.width
  | .cropH => r.window.height

/-- The kinds in the order of writing (R115, R120). -/
def allKinds : List ParamKind := [.exposure, .gain, .cropX, .cropY, .cropW, .cropH]

/-- The write of a kind that a setup needs: the map entry has a byte count of 1 to 3 and the fitted value
differs from the shadow, unknown differing from every value (R120). -/
def neededWrite (link : SensorLink) (r : SetupRequest) (k : ParamKind) : Option RegisterWrite :=
  let entry := link.map.get k
  let value := fitted entry.count (registerValue link.description.lineTime r k)
  if entry.count = 0 ∨ link.shadow.get k = some value then none
  else some { kind := k, value := value, register := entry.register, count := entry.count }

/-- The write list of a setup at its take-up (R120). -/
def writeList (link : SensorLink) (r : SetupRequest) : List RegisterWrite :=
  allKinds.filterMap (neededWrite link r)

/-! ### Transactions (R121, R122, R124) -/

/-- What the Sensor Link does on the I2C bus, in order (R121, R124). -/
inductive BusSignal where
  /-- A start condition. -/
  | start
  /-- The repeated start of a read, before the address byte with read bit 1. -/
  | repeatedStart
  /-- A byte sent; the sensor acknowledges it in its ninth bit, or does not. -/
  | sent (byte : Byte)
  /-- A data byte received; in its ninth bit the FS-4 acknowledges it, or does not. -/
  | received (acknowledged : Bool)
  /-- A stop condition. -/
  | stop
deriving DecidableEq, Repr

/-- The data bytes of a read: the FS-4 acknowledges each but the last, and does not acknowledge the last
(R124). -/
def receivedSignals : Nat → List BusSignal
  | 0 => []
  | 1 => [.received false]
  | n + 2 => .received true :: receivedSignals (n + 1)

/-- A transaction on the bus in which the sensor acknowledges every byte sent (R121, R124). -/
def Transaction.signals (t : Transaction) : List BusSignal :=
  let opening : List BusSignal :=
    .start :: .sent (BitVec.ofNat 8 (2 * t.address.toNat))
      :: (beBytes 2 t.register.toNat).map .sent
  match t.data with
  | .write bytes => opening ++ bytes.map .sent ++ [.stop]
  | .read count =>
    opening ++ [.repeatedStart, .sent (BitVec.ofNat 8 (2 * t.address.toNat + 1))]
      ++ receivedSignals count ++ [.stop]

/-- The signals up to the sent byte at a position, the first being 1, and the stop condition that ends the
transaction there (R122, R124). -/
def refusedAt : List BusSignal → Nat → List BusSignal
  | _, 0 => [.stop]
  | [], _ => [.stop]
  | .sent byte :: rest, n + 1 => .sent byte :: refusedAt rest n
  | x :: rest, n + 1 => x :: refusedAt rest (n + 1)

/-- A transaction on the bus whose byte at a position the sensor does not acknowledge (R122, R124). -/
def Transaction.refusedSignals (t : Transaction) (position : Nat) : List BusSignal :=
  refusedAt t.signals position

/-- The byte of a signal that sends one. -/
def BusSignal.sentByte : BusSignal → Option Byte
  | .sent byte => some byte
  | _ => none

/-- The bytes the Sensor Link sends in a transaction, and those of a read after the repeated start (R121,
R124). -/
def Transaction.sent (t : Transaction) : List Byte := t.signals.filterMap BusSignal.sentByte

/-- The bit times of a signal: one for a condition, nine for a byte with its acknowledgement (R121). -/
def BusSignal.bits : BusSignal → Nat
  | .sent _ | .received _ => 9
  | .start | .repeatedStart | .stop => 1

/-- The bit times of a transaction that is acknowledged in full: 29 + 9n for a write of n bytes, 39 + 9n for
a read (R121, R124). -/
def TransactionData.bitTimes : TransactionData → Nat
  | .write bytes => 29 + 9 * bytes.length
  | .read count => 39 + 9 * count

/-- The longest a transaction can take, in whole µs: a bit takes 2.5 µs (R121), and a NACK only shortens it
(R122). -/
def TransactionData.time (d : TransactionData) : Nat := ceilDiv (d.bitTimes * 5) 2

/-- A transaction as it begins, with the I2C address in force (R121, R164). -/
def newTransaction (link : SensorLink) (register : BitVec 16) (data : TransactionData) : Transaction :=
  { address := link.description.address, register := register, data := data, left := data.time }

/-- The transaction of a write of a setup (R121). -/
def RegisterWrite.transaction (link : SensorLink) (w : RegisterWrite) : Transaction :=
  newTransaction link w.register (.write (beBytes w.count w.value))

/-- The transaction of a direct command (R124, R125). -/
def DirectOp.transaction (link : SensorLink) : DirectOp → Transaction
  | .read register count => newTransaction link register (.read count)
  | .write register bytes => newTransaction link register (.write bytes)

/-! ### The answer to a setup (R74) -/

/-- The context in the next-slot place with the Sensor Link's answer: ARMED with the link result complete, or
still SETUP with the link result failed (R74). -/
def NextFrame.answered (f : NextFrame) (complete : Bool) : NextFrame :=
  if complete then
    { f with state := .armed, context := { f.context with linkResult := .complete } }
  else { f with context := { f.context with linkResult := .failed } }

/-- The Sensor Link answers a setup; the answer is taken by the context in SETUP whose setup it names, and
ignored otherwise (R74). -/
def answerSetup (setup : Nat) (complete : Bool) (s : State) : State :=
  match s.sequencer.next with
  | none => s
  | some f =>
    if f.state = .setup ∧ f.setup = setup then s.setNext (some (f.answered complete)) else s

/-! ### Taking work up (R119, R120) -/

/-- The link takes up a setup: answered "setup complete" at once where nothing differs, else SETUP with its
write list (R120). -/
def takeUpSetup (r : SetupRequest) (s : State) : State :=
  match writeList s.link r with
  | [] => answerSetup r.setup true (s.setLinkState .idle)
  | w :: ws =>
    s.setLinkState
      (.setup
        { setup := r.setup, writes := w :: ws, retry := false, bus := none, left := firstWriteTime })

/-- The link takes up a direct command and makes its transaction at once (R124, R125). -/
def takeUpDirect (c : DirectCommand) (s : State) : State :=
  s.setLinkState
    (.direct { command := c, retry := false, bus := some (c.op.transaction s.link), left := 0 })

/-- The link goes to IDLE, then to any work waiting (R119). -/
def linkIdle (s : State) : State :=
  match s.link.waiting with
  | none => s.setLinkState .idle
  | some (.setup r) => takeUpSetup r { s with link.state := .idle, link.waiting := none }
  | some (.direct c) => takeUpDirect c { s with link.state := .idle, link.waiting := none }

/-- The Frame Sequencer hands a setup: taken up at once by an IDLE link, else waiting work (R120). -/
def handSetup (r : SetupRequest) (s : State) : State :=
  match s.link.state with
  | .idle => takeUpSetup r s
  | _ => { s with link.waiting := some (.setup r) }

/-- A direct command is taken up at once by an IDLE link, else waiting work (R124, R125). -/
def handDirect (c : DirectCommand) (s : State) : State :=
  match s.link.state with
  | .idle => takeUpDirect c s
  | _ => { s with link.waiting := some (.direct c) }

/-- The Frame Sequencer ends a setup (R75, R123): waiting, it is discarded; taken up with no transaction on
the bus, the link goes to IDLE; with one, it drains. An end that reaches a setup already answered has no
effect. -/
def endSetup (setup : Nat) (s : State) : State :=
  match s.link.state, s.link.waiting with
  | .setup w, _ =>
    if w.setup = setup then
      match w.bus with
      | none => linkIdle s
      | some t =>
        s.setLinkState
          (.draining { bus := t, records := w.writes.head?.map fun x => (x.kind, x.value) })
    else s
  | _, some (.setup r) => if r.setup = setup then { s with link.waiting := none } else s
  | _, _ => s

/-- The shadow entry of a kind takes a value, or becomes unknown (R118). -/
def setShadow (k : ParamKind) (v : Option Nat) (s : State) : State :=
  { s with link.shadow := s.link.shadow.set k v }

/-- All six shadow entries become unknown at START, and a transaction begun before it sets none when it ends
after (R118, R127). -/
def forgetShadow (s : State) : State :=
  let t : State := { s with link.shadow := ⟨none, none, none, none, none, none⟩ }
  match t.link.state with
  | .draining w => t.setLinkState (.draining { w with records := none })
  | _ => t

/-- The registers of a map entry with a byte count of 1 to 3 share an address with the written ones;
addresses are counted upward without wrapping (R125). -/
def MapEntry.overlaps (e : MapEntry) (register : BitVec 16) (count : Nat) : Bool :=
  1 ≤ e.count && decide (e.register.toNat < register.toNat + count)
    && decide (register.toNat < e.register.toNat + e.count)

/-- A SENSOR_WRITE sets unknown the shadow entry of every kind whose registers it overlaps (R125). -/
def forgetOverlapping (register : BitVec 16) (count : Nat) (s : State) : State :=
  allKinds.foldl
    (fun t k => if (t.link.map.get k).overlaps register count then setShadow k none t else t) s

end Sys2Proof.Machine
end

