-- ==== Sys2Proof/Machine/Pixels.lean ====
section
/-! DEFINITION. Frame Pass (Chapter 6): measuring lines, the statistics, the size check, and the header line
with its CRC. -/

namespace Sys2Proof.Machine

/-- The most pixels a frame is measured over (R105). -/
def pixelLimit : Nat := 16777216

/-- The accumulators at frame start (R104). -/
def Accumulators.zero : Accumulators :=
  { pixelCount := 0, levelSum := 0, bins := Vector.replicate 8 0, clipCount := 0, lineCount := 0,
    lengthFault := false }

/-- The bin of a level: 0 to 127, 128 to 255, and so on (Table 6-1). -/
def binOf (level : Pixel) : Fin 8 := ⟨level.toNat / 128, by have := level.isLt; omega⟩

/-- One pixel measured, unless the pixel count has reached its limit (R105). -/
def Accumulators.measure (a : Accumulators) (level : Pixel) : Accumulators :=
  if a.pixelCount < pixelLimit then
    { a with
      pixelCount := a.pixelCount + 1
      levelSum := a.levelSum + level.toNat
      bins := a.bins.set (binOf level) (a.bins[binOf level] + 1)
      clipCount := if level = 1023 then a.clipCount + 1 else a.clipCount }
  else a

/-- Whether a line of a given length sets the length fault: its length differs from the window width, and the
pixel count has not yet reached its limit, past which every accumulator but the line count keeps its value
(R105). -/
def Accumulators.faultedBy (a : Accumulators) (width : Nat) (pixels : List Pixel) : Bool :=
  a.pixelCount < pixelLimit && pixels.length != width

/-- A line counted, the length fault set where its length differs from the window width, and its pixels
measured in order (R105). -/
def Accumulators.takeLine (a : Accumulators) (width : Nat) (pixels : List Pixel) : Accumulators :=
  pixels.foldl Accumulators.measure
    { a with
      lineCount := saturatingSucc 65535 a.lineCount
      lengthFault := a.lengthFault || a.faultedBy width pixels }

/-- A line cut before its end: its pixels are measured; whether it is counted and whether it sets the length
fault are given, the latter whatever the pixels received, since the handbook does not say by which length a cut
line is judged (R105, assumption 9). -/
def Accumulators.takeCut (a : Accumulators) (pixels : List Pixel) (counted faults : Bool) :
    Accumulators :=
  pixels.foldl Accumulators.measure
    { a with
      lineCount := if counted then saturatingSucc 65535 a.lineCount else a.lineCount
      lengthFault := a.lengthFault || (faults && a.pixelCount < pixelLimit) }

/-- A share of the pixels measured, in 1/1024, rounded down; 0 when there are none (R106). -/
def shareOf (count pixels : Nat) : Nat := count * 1024 / pixels

/-- The statistics at frame end (R106). Every quotient by 0 is 0. -/
def Accumulators.statistics (a : Accumulators) : Statistics :=
  { mean := a.levelSum / a.pixelCount
    histogram := Vector.ofFn fun i : Fin 8 => shareOf a.bins[i] a.pixelCount
    clipShare := shareOf a.clipCount a.pixelCount }

/-- The size check: the line count differs from the window height, or the length fault is set (R107). -/
def Accumulators.mismatch (a : Accumulators) (w : Window) : Bool :=
  a.lineCount != w.height || a.lengthFault

/-! ### The header line (R110 to R112) -/

/-- One shift of the CRC register, with 1021h where a 1 leaves the top (R112). -/
def crcShift (r : BitVec 16) : BitVec 16 :=
  if r.getLsbD 15 then (r <<< 1) ^^^ 0x1021 else r <<< 1

/-- The CRC register after a number of shifts. -/
def crcShifts : Nat → BitVec 16 → BitVec 16
  | 0, r => r
  | n + 1, r => crcShifts n (crcShift r)

/-- One byte taken into the CRC register (R112). -/
def crcByte (r : BitVec 16) (b : Byte) : BitVec 16 := crcShifts 8 (r ^^^ (b.setWidth 16 <<< 8))

/-- The CRC of a run of bytes, from FFFFh (R112). -/
def crc (bytes : List Byte) : BitVec 16 := bytes.foldl crcByte 0xFFFF

/-- The subscriber bytes 26 to 33: a host byte and a tag byte for each pair, then zeros (R111). -/
def subscriberBytes (subscribers : List Subscriber) : List Byte :=
  (subscribers.flatMap (fun p : Subscriber => beBytes 1 p.host.number ++ beBytes 1 p.tag)
    ++ List.replicate 8 0).take 8

/-- Bytes 0 to 61 of the header line (Table 6-3). -/
def headerBody (c : FrameContext) : List Byte :=
  [0x5A, 0xC3] ++ beBytes 4 (c.frameNumber.getD 0).toNat ++ beBytes 2 c.generation.toNat
    ++ beBytes 1 c.slotIndex ++ beBytes 1 c.profile.val ++ beBytes 1 c.stepIndex
    ++ beBytes 1 (hostMask c.subscribers) ++ beBytes 4 c.exposure ++ beBytes 2 c.gain
    ++ beBytes 2 c.window.x ++ beBytes 2 c.window.y ++ beBytes 2 c.window.width
    ++ beBytes 2 c.window.height ++ subscriberBytes c.subscribers
    ++ beBytes 1 (headerFlags c.clamped c.tuning) ++ List.replicate 27 0

/-- The 64 header bytes, the CRC of the others last, upper byte first (Table 6-3, R112). -/
def headerBytes (c : FrameContext) : List Byte :=
  headerBody c ++ beBytes 2 (crc (headerBody c)).toNat

/-- The header line: a header byte in the low 8 bits of each of its first 64 pixels, then zeros to the
window width (R110). -/
def headerLine (header : List Byte) (width : Nat) : List Pixel :=
  header.map (BitVec.setWidth 10) ++ List.replicate (width - 64) 0

/-- The video output between frames (R103). -/
def VideoOutput.betweenFrames : VideoOutput := { frameValid := false, line := [] }

/-- Frame Pass takes up a frame at its frame start (R104, R110). -/
def takeUpFrame (c : FrameContext) (s : State) : State :=
  { s with
    framePass := .taking .zero (headerBytes c) false
    videoOut := { frameValid := true, line := headerLine (headerBytes c) c.window.width } }

/-- Frame Pass leaves the frame it serves and the output frame ends (R106, R108). -/
def releasePass (s : State) : State := { s with framePass := .idle, videoOut := .betweenFrames }

/-- The accumulators Frame Pass holds; zero in IDLE, where they hold nothing (R103). -/
def FramePass.accumulators : FramePass → Accumulators
  | .idle => .zero
  | .taking a _ _ => a
  | .waitingEnd a _ _ => a

/-- A stray frame start has cut the frame short in the middle of a line (R107). -/
def FramePass.cutShort : FramePass → Bool
  | .waitingEnd _ _ cut => cut
  | _ => false

/-- SIZE_MISMATCH at frame end (R107): the size check fails, or a stray frame start has cut the frame short.
The second makes it certain where the free values of assumption 9 leave the first open. -/
def FramePass.mismatch (f : FramePass) (w : Window) : Bool :=
  f.accumulators.mismatch w || f.cutShort

end Sys2Proof.Machine
end

