-- ==== Sys2Proof/Machine/FrameOps.lean ====
section
/-! DEFINITION. The Frame Sequencer's work (Chapter 4): setup points and setup, the close sequence, the end
of a stop, the halt, and what a slot start does. -/

namespace Sys2Proof.Machine

/-! ### Setup (R67, R72, R73) -/

/-- The next index, worked out at a setup point (R67). -/
def nextIndexOf (s : State) : Nat :=
  match s.sequencer.position with
  | .slot n => if n + 1 = s.calendar.active.length then 0 else n + 1
  | .beforeSlot0 => 0
  | .absent => 0

/-- The context a setup begins with: the slot's values, and those of the profile's step by R40 (R73). -/
def newContext (s : State) (index : Nat) (profile : Fin 16) (stepIndex : Nat)
    (subscribers : List Subscriber) (p : Profile) (t : BracketStep) : FrameContext :=
  { slotIndex := index
    generation := s.calendar.generation
    profile := profile
    stepIndex := stepIndex
    subscribers := subscribers
    exposure := appliedExposure (slotBudget s) p.baseExposure t
    gain := appliedGain p.baseGain t
    window := p.window
    linkResult := .none
    frameNumber := none
    triggerTime := none
    clamped := isClamped (slotBudget s) p.baseExposure t
    tuning := match p.mode with
      | .tuning _ => true
      | _ => false
    sizeMismatch := false
    outcome := none
    statistics := none }

/-- Setup begins: a context in SETUP in the next-slot place, handed to the Sensor Link (R73). -/
def beginSetup (c : FrameContext) (s : State) : State :=
  let n := s.sequencer.nextSetup
  handSetup { setup := n, exposure := c.exposure, gain := c.gain, window := c.window }
    { s with
      sequencer.next := some { state := .setup, setup := n, context := c }
      sequencer.nextSetup := n + 1 }

/-- The slot of the active calendar at an index is set up if it is assigned; an idle slot makes no context
(R72, R73). The profile and its step exist, since live requests reference them (R27, R42). -/
def setUpSlot (index : Nat) (s : State) : State :=
  match s.calendar.active[index]? with
  | some (.assigned profile stepIndex subscribers) =>
    match s.profile profile with
    | some p =>
      match p.steps[stepIndex]? with
      | some t => beginSetup (newContext s index profile stepIndex subscribers p t) s
      | none => s
    | none => s
  | _ => s

/-- The swap asked for at the setup point of slot 0: made if the builder is READY (R54). -/
def swapIfReady (s : State) : State :=
  match s.calendar.builder with
  | .ready sh => swap sh s
  | _ => s

/-- The setup point of the next slot (R72): the next index, the swap at slot 0, and the setup of the slot as
the active calendar then holds it. -/
def setupPoint (s : State) : State :=
  let index := nextIndexOf s
  let t : State := { s with sequencer.nextIndex := index, sequencer.setupDone := true }
  setUpSlot index (if index = 0 then swapIfReady t else t)

/-- A happening that makes the setup point if none has yet fallen in this slot, while RUNNING (R72). -/
def setupPointIfDue (s : State) : State :=
  if s.engine.state = .running ∧ s.sequencer.setupDone = false then setupPoint s else s

/-- The context in the next-slot place is abandoned, and an unfinished setup ended (R75, R83, R84). -/
def abandonNext (s : State) : State :=
  match s.sequencer.next with
  | none => s
  | some f => endSetup f.setup (s.setNext none)

/-! ### The close (R80, R81, R85, R16, R17) -/

/-- One pair of the subscriber list at step 3 of a close (R16, R17): the live BURST it names counts an
occasion at its last step, and is done and freed at its count. Answers also whether a request left
ACTIVE. -/
def countOccasion (context : FrameContext) (acc : State × Bool) (pair : Subscriber) : State × Bool :=
  match acc.1.request pair.host pair.tag with
  | none => acc
  | some r =>
    match r.kind with
    | .stream => acc
    | .burst count done =>
      if context.stepIndex + 1 = acc.1.stepCount r.profile then
        if done + 1 = count then
          (tellLeft r
            (clearEntry r
              (postNotice r.owner { kind := .done, subject := r.tag, detail := 0 }
                (leaveCalendar r acc.1))),
           acc.2 || r.isActive)
        else
          (acc.1.updateRequest pair.host pair.tag
            fun q => { q with kind := .burst count (done + 1) }, acc.2)
      else acc

/-- Step 3 of a close: occasions are counted unless the frame is DROPPED, bursts complete in subscriber
order, and at most one rebuild is asked for (R16, R17). DEDUCED: R7's WAITING test is made, and the one trigger
raised, once, after the last burst of the close (assumption 27). -/
def countOccasions (context : FrameContext) (outcome : FrameOutcome) (s : State) : State :=
  if outcome.isDropped then s
  else
    let r := context.subscribers.foldl (countOccasion context) (s, false)
    rebuildIfWaiting r.2 r.1

/-- A consecutive-failure counter raised, not above 3 (R81). -/
def raiseFailures (n : Nat) : Nat := saturatingSucc 3 n

/-- Step 4 of a close: the consecutive-failure counters (R81). -/
def countFailure (outcome : FrameOutcome) (s : State) : State :=
  match outcome with
  | .normal => { s with sequencer.linkFailures := 0, sequencer.stallFailures := 0 }
  | .dropped .link => { s with sequencer.linkFailures := raiseFailures s.sequencer.linkFailures }
  | .dropped .stall => { s with sequencer.stallFailures := raiseFailures s.sequencer.stallFailures }
  | .dropped .late => s
  | .dropped .halt => s

/-- The slot timer and the exposure timer stop and the slot position becomes absent (R66, R67, R84, R85). -/
def stopTimers (s : State) : State :=
  { s with
    sequencer.slotTimer := none
    sequencer.exposureTimer := none
    sequencer.position := .absent }

/-- A STOP that waits in STOPPING is answered OK with the state reached (R169). -/
def answerStop (s : State) : State :=
  match s.engine.stopWaiting with
  | none => s
  | some (h, serial) =>
    deliverAnswer h serial
      { status := .ok, results := beBytes 1 s.engine.state.code }
      { s with engine.stopWaiting := none }

/-- The end of a stop: STOPPED, timers stopped, ENGINE_STOPPED posted, STOP answered (R85, R169). -/
def endOfStop (s : State) : State :=
  answerStop
    (postToAll { kind := .engineStopped, subject := 0, detail := 0 }
      (stopTimers { s with engine.state := .stopped }))

/-- A consecutive-failure counter has gone from 2 to 3 (R82). -/
def reachedThree (before after : Nat) : Bool := before == 2 && after == 3

/-- The close sequence of R80 on a context with its outcome. Step 6, the release, is the caller's: it has
already taken the context out of its place. -/
def closeFrame (context : FrameContext) (outcome : FrameOutcome) (s : State) : State :=
  let closed := { context with outcome := some outcome }
  let t := countFailure outcome
    (countOccasions closed outcome (judgeFrame closed outcome (composeRecords closed outcome s)))
  if t.engine.state = .stopping
      ∧ reachedThree s.sequencer.stallFailures t.sequencer.stallFailures = false
  then endOfStop t else t

/-- The frame in the present-slot place is closed DROPPED: Frame Pass abandons it in READOUT, the exposure
timer is cancelled (R76 step 1, R80, R83, R108). -/
def dropPresent (reason : DropReason) (s : State) : State :=
  match s.sequencer.present with
  | none => s
  | some f =>
    let t : State := { s with sequencer.present := none, sequencer.exposureTimer := none }
    closeFrame f.context (.dropped reason)
      (match f.state with
        | .readout => releasePass t
        | .exposing => t)

/-! ### The halt (R83, R170) -/

/-- A fault handed to Engine Control halts an engine that is RUNNING or STOPPING, and is ignored otherwise
(R170). -/
def halt (fault : FaultCode) (s : State) : State :=
  if s.engine.state = .running ∨ s.engine.state = .stopping then
    answerStop
      (postToAll { kind := .engineHalted, subject := 0, detail := fault.code }
        (stopTimers
          (abandonNext
            (dropPresent .halt { s with engine.fault := fault, engine.state := .halted }))))
  else s

/-! ### The slot start (R71, R76, R77, R82) -/

/-- The frame-number counter raised by one, passing over 0 (R71). -/
def nextFrameNumber (n : BitVec 32) : BitVec 32 := if n + 1 = 0 then 1 else n + 1

/-- An ARMED context is triggered: TRIG pulses, it is EXPOSING in the present-slot place, and the exposure
timer starts (R77). -/
def triggerFrame (context : FrameContext) (s : State) : State :=
  { s with
    sequencer.present :=
      some
        { state := .exposing
          context := { context with triggerTime := some s.delivery.clock } }
    sequencer.exposureTimer := some context.exposure
    sequencer.trigger := triggerTime }

/-- Steps 2 to 5 of a slot start while RUNNING: the slot position becomes the next index, and a context in
the next-slot place is numbered, then triggered or closed LATE or LINK (R76). -/
def startNext (s : State) : State :=
  let t : State := { s with sequencer.position := .slot s.sequencer.nextIndex }
  match t.sequencer.next with
  | none => t
  | some f =>
    let number := nextFrameNumber t.sequencer.frameNumber
    let u : State := { t with sequencer.next := none, sequencer.frameNumber := number }
    let context := { f.context with frameNumber := some number }
    match f.state with
    | .armed => triggerFrame context u
    | .setup =>
      match context.linkResult with
      | .failed => closeFrame context (.dropped .link) u
      | _ => closeFrame context (.dropped .late) (endSetup f.setup u)

/-- The faults a slot start hands, SENSOR_STALL first (R82), from the counters before and after its
closes. -/
def handFaults (stall link : Bool) (s : State) : State :=
  let t := if stall then halt .sensorStall s else s
  if link then halt .sensorLink t else t

/-- A slot start (R76). The slot timer runs on from it (R66). Steps 2 to 5 are taken while RUNNING; in
STOPPING they find nothing to act on, and the slot position stays (R67). -/
def slotStart (s : State) : State :=
  let s0 : State :=
    { s with sequencer.slotTimer := some s.engine.slotPeriod, sequencer.setupDone := false }
  let s1 := dropPresent .stall s0
  let s2 := if s.engine.state = .running then startNext s1 else s1
  let stall := reachedThree s.sequencer.stallFailures s1.sequencer.stallFailures
  let link := reachedThree s1.sequencer.linkFailures s2.sequencer.linkFailures
  if stall || link then handFaults stall link s2
  else if s2.sequencer.present.isNone then setupPointIfDue s2
  else s2

end Sys2Proof.Machine
end

