-- ==== Sys2Proof/Machine/Frames.lean ====
section
/-! DEFINITION. The happenings of the Frame Sequencer and of Frame Pass (Chapters 4 and 6): slot start,
exposure timer, frame start, lines, frame end. -/

namespace Sys2Proof.Machine

/-- SLOT_START (R66, R76): the slot timer has run out. Before that, the happening does not fall
(assumption 3). -/
def execSlotStart (s : State) : Host.Outcome State Fault Refusal :=
  if s.sequencer.slotTimer = some 0 then .next (slotStart s) else .next s

/-- EXPOSURE_TIMER_EXPIRY (R77): the setup point falls if none has in this slot. Before the timer has run
out, the happening does not fall (assumption 3). -/
def execExposureTimerExpiry (s : State) : Host.Outcome State Fault Refusal :=
  if s.sequencer.exposureTimer = some 0 then
    .next (setupPointIfDue { s with sequencer.exposureTimer := none })
  else .next s

/-- A frame start taken by the context in EXPOSING: READOUT, the exposure timer cancelled, Frame Pass takes
the frame up, and a setup point falls if none has in this slot (R78, R104). -/
def frameStarted (f : PresentFrame) (s : State) : State :=
  setupPointIfDue
    (takeUpFrame f.context
      { s with
        sequencer.present := some { f with state := .readout }
        sequencer.exposureTimer := none })

/-- A frame start that finds no context in EXPOSING is ignored; Frame Pass, if TAKING, takes no more lines of
its frame (R78, R104). The output frame goes on: its frame-valid stays high through WAITING_END until the
frame end or the drop. R110 says only that it falls after the last line forwarded, so that moment is the
model's choice. DESIGN CHOICE (assumption 23). -/
def frameStartIgnored (s : State) : State :=
  match s.framePass with
  | .taking a header cut => { s with framePass := .waitingEnd a header cut }
  | _ => s

/-- FRAME_START (R78). While the part is held in reset no context is EXPOSING and Frame Pass is IDLE. -/
def execFrameStart (s : State) : Host.Outcome State Fault Refusal :=
  match s.sequencer.present with
  | some f =>
    match f.state with
    | .exposing => .next (frameStarted f s)
    | .readout => .next (frameStartIgnored s)
  | none => .next (frameStartIgnored s)

/-- VIDEO_LINE (R105): in TAKING a line is counted, measured against the window width of the context served,
and forwarded; in any other state it is neither measured nor forwarded (R103). A cut line leaves open
whether it counts and whether it sets the length fault (assumption 9), and is kept in mind for R107. -/
def execVideoLine (pixels : List Pixel) (cut : Bool) (s : State) :
    Host.Outcome State Fault Refusal :=
  match s.framePass, s.sequencer.present with
  | .taking a header _, some f =>
    if cut then
      .next
        { s with
          framePass :=
            .taking
              (a.takeCut pixels (Config.cutLineCounted s.freeIndex)
                (Config.cutLineFaults s.freeIndex))
              header true
          videoOut := { s.videoOut with line := pixels }
          freeIndex := s.freeIndex + 1 }
    else
      .next
        { s with
          framePass := .taking (a.takeLine f.context.window.width pixels) header false
          videoOut := { s.videoOut with line := pixels } }
  | _, _ => .next s

/-- A frame end taken by the context in READOUT: the statistics and the size check go to the context, Frame
Pass to IDLE, and the context is closed normally (R79, R106, R107). -/
def frameEnded (f : PresentFrame) (s : State) : State :=
  closeFrame
    { f.context with
      statistics := some s.framePass.accumulators.statistics
      sizeMismatch := s.framePass.mismatch f.context.window }
    .normal
    (releasePass { s with sequencer.present := none, sequencer.exposureTimer := none })

/-- FRAME_END (R79). -/
def execFrameEnd (s : State) : Host.Outcome State Fault Refusal :=
  match s.sequencer.present with
  | some f =>
    match f.state with
    | .readout => .next (frameEnded f s)
    | .exposing => .next s
  | none => .next s

end Sys2Proof.Machine
end

