-- ==== Sys2Proof/Machine/Ports.lean ====
section
/-! DEFINITION. The Host Ports (Chapter 9): power-on, transactions, the response buffer, attach, the steps of
a detach, GET_STATUS, notices and the attention mask. -/

namespace Sys2Proof.Machine

/-! ### Power-on and the RESET pin (R160) -/

/-- POWER_ON (R160): every port, table, queue, counter, timer and block takes its power-on state, which is
held while the RESET pin is low. The queue of waiting commands and the model's own free-value counter are no
state of the part. -/
def execPowerOn (s : State) : Host.Outcome State Fault Refusal :=
  .next { State.reset with pending := s.pending, freeIndex := s.freeIndex, resetHeld := true }

/-- RESET_RELEASE (R160): the RESET pin returns high; the ports take the transactions that follow. -/
def execResetRelease (s : State) : Host.Outcome State Fault Refusal :=
  .next { s with resetHeld := false }

/-! ### Detach (R149) -/

/-- Step 1 of a detach (R149): the port becomes DETACHED, its notices, mask and DISCARDED go, its buffer is
PENDING for the detach (after DETACH, still for that command), and the commands it has handed on will find
it DETACHED (R152). -/
def portDetach (h : HostId) (answers : Option Nat) (s : State) : State :=
  let p := s.port h
  s.setPort h
    { p with
      attached := false
      notices := []
      mask := 0
      discarded := false
      buffer := match answers with
        | some _ => p.buffer
        | none => .pendingDetach
      handed := p.handed.map fun c => { c with stale := true }
      detaching := some { next := .requests, answers := answers, left := detachTime } }

/-- A later step of a detach: it falls when it is the next step of a detach under way (R149). -/
def detachStep (step next : DetachStep) (h : HostId) (run : State → State) (s : State) : State :=
  match (s.port h).detaching with
  | none => s
  | some d =>
    if d.next = step then run (s.setPort h { s.port h with detaching := some { d with next := next } })
    else s

/-- What a pulse makes of a transaction under way: it is abandoned, save one that is ignored already
(R151). -/
def Transfer.abandon : Transfer → Transfer
  | .ignored => .ignored
  | _ => .abandoned

/-- HRST_PULSE (R151): the pulse is taken. It abandons the transaction under way and begins the detach of the
port, attached or not; while a detach is under way it begins no second one, and the answer of a DETACH that
began it will be dropped. -/
def execHrstPulse (h : HostId) (s : State) : Host.Outcome State Fault Refusal :=
  if s.resetHeld || (s.port h).hrstLow then .next s
  else
    let p : Port :=
      { s.port h with hrstLow := true, select := (s.port h).select.map Transfer.abandon }
    match p.detaching with
    | some d => .next (s.setPort h { p with detaching := some { d with answers := none } })
    | none => .next (portDetach h none (s.setPort h p))

/-- HRST_RELEASE (R151): HRSTn returns high. -/
def execHrstRelease (h : HostId) (s : State) : Host.Outcome State Fault Refusal :=
  .next (s.setPort h { s.port h with hrstLow := false })

/-! ### Transactions (R141 to R147) -/

/-- The port takes transactions: RESET and HRSTn are high (R151, R160). -/
def takesTransactions (s : State) (h : HostId) : Bool := !s.resetHeld && !(s.port h).hrstLow

/-- Select falls: the status byte is sampled (R141, R142); while RESET or HRSTn is low the transaction is
ignored to its end (R151, R160). -/
def selectFalls (h : HostId) (s : State) : State :=
  s.setPort h
    { s.port h with
      select := some (if takesTransactions s h then .opened (statusByte s h) else .ignored)
      shiftedOut := [] }

/-- The port shifts out bytes, and the transaction under way has come further. -/
def shiftOut (h : HostId) (out : List Byte) (stage : Transfer) (s : State) : State :=
  let p := s.port h
  s.setPort h { p with select := some stage, shiftedOut := p.shiftedOut ++ out }

/-- The transaction under way has ended. -/
def selectRises (h : HostId) (s : State) : State := s.setPort h { s.port h with select := none }

/-- 00h for each byte received (R141, R151). -/
def zerosFor (received : List Byte) : List Byte := List.replicate received.length 0

/-- What a moment does that is the same whatever the transaction is: select falls; an abandoned transaction
shifts out 00h; one that was abandoned or ignored, or whose direction byte was not complete, ends without
effect (R141, R151). Any other moment is none of a transaction under way, and does not fall
(assumption 3). -/
def commonMoment (h : HostId) (m : Moment) (s : State) : State :=
  match m, (s.port h).select with
  | .falls, none => selectFalls h s
  | .direction, some .abandoned => shiftOut h [0] .abandoned s
  | .bytes received, some .abandoned => shiftOut h (zerosFor received) .abandoned s
  | .rises, some .abandoned => selectRises h s
  | .rises, some .ignored => selectRises h s
  | .rises, some (.opened _) => selectRises h s
  | _, _ => s

/-- The holder's claim timer restarts with the claim expiry in force (R162). -/
def restartClaim (h : HostId) (s : State) : State :=
  if s.holdsClaim h then
    { s with engine.claim := some { holder := h, timer := s.engine.claimExpiry * 1000 } }
  else s

/-- A frame that passes the port's checks is handed to the block that owns its command, and reported to
Engine Control (R144, R162). -/
def handOn (h : HostId) (serial : Nat) (c : CommandCode) (args : List Byte) (s : State) : State :=
  let p := s.port h
  restartClaim h
    (s.setPort h
      { p with
        handed := p.handed ++
          [{ serial := serial, code := c, args := args, stale := false, left := answerTime }] })

/-- The commands a DETACHED port hands on (R144). -/
def needsNoAttach : CommandCode → Bool
  | .attach => true
  | .getStatus => true
  | _ => false

/-- The port's checks of a command frame, in order (R144). -/
def checkFrame (h : HostId) (serial : Nat) (frame : List Byte) (s : State) : State :=
  match decodeFrame frame with
  | .error .badLength => sendAnswer h serial answerTime (.refusal .badLength) s
  | .error .unknownCommand => sendAnswer h serial answerTime (.refusal .unknownCommand) s
  | .ok (c, args) =>
    if (s.port h).attached || needsNoAttach c then handOn h serial c args s
    else sendAnswer h serial answerTime (.refusal .notAttached) s

/-- The rise of select of a command transaction (R145): discarded whole with DISCARDED set while the buffer is
PENDING; else taken, any response discarded unread, the buffer PENDING for it, and its frame checked. R142
calls bit 4 clear on a DETACHED port whose detach has ended, and R145 sets it there too, for a command sent
behind a pending GET_STATUS or ATTACH: the model follows R145. DEDUCED (assumption 24). -/
def takeFrame (h : HostId) (frame : List Byte) (s : State) : State :=
  let p := s.port h
  if p.buffer.isPending then s.setPort h { p with discarded := true }
  else
    checkFrame h p.nextSerial frame
      (s.setPort h { p with buffer := .pending p.nextSerial, nextSerial := p.nextSerial + 1 })

/-- COMMAND_TRANSACTION (R141, R145): 00h is shifted out after the status byte, and the frame received is
acted on at the rise of select. DISCARDED may be set on a DETACHED port too (assumption 24). -/
def execCommandTransaction (h : HostId) (m : Moment) (s : State) : Host.Outcome State Fault Refusal :=
  .next
    (match m, (s.port h).select with
    | .direction, some (.opened status) => shiftOut h [status] (.command []) s
    | .bytes received, some (.command frame) =>
      shiftOut h (zerosFor received) (.command (frame ++ received)) s
    | .rises, some (.command frame) => takeFrame h frame (selectRises h s)
    | _, _ => commonMoment h m s)

/-- The response frame of an answer (Table 9-2). -/
def Response.frame (r : Response) : List Byte :=
  r.status.toByte :: BitVec.ofNat 8 r.results.length :: r.results

/-- The response frame a response read is answered with (R146). -/
def Buffer.readFrame : Buffer → List Byte
  | .empty => Response.frame (.refusal .noCommand)
  | .pending _ => Response.frame (.refusal .wait)
  | .pendingDetach => Response.frame (.refusal .wait)
  | .ready r => r.frame

/-- What the end of its direction byte makes of the port of a response read: a READY buffer becomes EMPTY and
DISCARDED is cleared, and any other stays (R146). -/
def Port.responseTaken (p : Port) : Port :=
  if p.buffer.isReady then { p with buffer := .empty, discarded := false } else p

/-- RESPONSE_READ (R141, R143, R146): answered at the end of its direction byte from the state of the buffer
then; the bytes of the frame follow, and 00h beyond it. -/
def execResponseRead (h : HostId) (m : Moment) (s : State) : Host.Outcome State Fault Refusal :=
  let p := s.port h
  .next
    (match m, p.select with
    | .direction, some (.opened status) =>
      shiftOut h [status] (.response p.buffer.readFrame) (s.setPort h p.responseTaken)
    | .bytes received, some (.response frame) =>
      let n := received.length
      shiftOut h (frame.take n ++ List.replicate (n - frame.length) 0) (.response (frame.drop n)) s
    | .rises, some (.response _) => selectRises h s
    | _, _ => commonMoment h m s)

/-- STATUS_POLL (R141): 00h is shifted out after the status byte, and the port changes nothing. Direction bytes
01h and 02h begin other transactions, so the end of a direction byte that is one of them does not fall here
(assumption 3). -/
def execStatusPoll (h : HostId) (direction : Byte) (m : Moment) (s : State) :
    Host.Outcome State Fault Refusal :=
  .next
    (match m, (s.port h).select with
    | .direction, some (.opened status) =>
      if direction = 0x01 ∨ direction = 0x02 then s else shiftOut h [status] .poll s
    | .bytes received, some .poll => shiftOut h (zerosFor received) .poll s
    | .rises, some .poll => selectRises h s
    | _, _ => commonMoment h m s)

/-- COMMAND_ANSWER (R147): the oldest answer on its way to the port reaches its response buffer. -/
def execCommandAnswer (h : HostId) (s : State) : Host.Outcome State Fault Refusal :=
  match (s.port h).answers with
  | [] => .next s
  | a :: rest =>
    .next (deliverAnswer h a.serial a.response (s.setPort h { s.port h with answers := rest }))

/-! ### Attach and detach (R148 to R152) -/

/-- ATTACH on its port: length, then DETACHED; then ATTACHED with mask 3 and hold limit 0 (R148). -/
def attachPort (h : HostId) (cmd : Handed) (s : State) : Reply :=
  if cmd.stale then refuse .notAttached s
  else
    ifRange (noArgs cmd.args) s fun _ =>
      if (s.port h).attached then refuse .state s
      else
        let t := s.setPort h { s.port h with attached := true, mask := 3 }
        accept (beBytes 1 h.number) (t.setMailbox h { t.mailbox h with holdLimit := 0 })

/-- ATTACH (R148). -/
def execAttach (h : HostId) (s : State) : Host.Outcome State Fault Refusal :=
  .next (takeCommand .attach h (attachPort h) s)

/-- DETACH on its port: the first step of the detach, the answer waiting for the last (R150). -/
def detachPort (h : HostId) (cmd : Handed) (s : State) : Reply :=
  ifRange (noArgs cmd.args) s fun _ => acceptPending (portDetach h (some cmd.serial) s)

/-- DETACH (R150). -/
def execDetach (h : HostId) (s : State) : Host.Outcome State Fault Refusal :=
  .next (takeCommand .detach h (ifAttached h (detachPort h)) s)

/-- One request of a detached host is freed, and the tune that loses its last ACTIVE user aborted (R22,
R100). Answers also whether a request left ACTIVE. -/
def freeDetached (acc : State × Bool) (r : Request) : State × Bool :=
  (tellLeft r (freeEntry r acc.1), acc.2 || r.isActive)

/-- The Request Manager's part of a detach: every live request of the host in ascending tag order, then at
most one rebuild (R22, R61). -/
def freeRequestsOf (h : HostId) (s : State) : State :=
  let r := ((s.requestsOf h).insertionSort fun a b => a.tag ≤ b.tag).foldl freeDetached (s, false)
  rebuildIfWaiting r.2 r.1

/-- DETACH_FREE_REQUESTS (R22), step 2 of R149. -/
def execDetachFreeRequests (h : HostId) (s : State) : Host.Outcome State Fault Refusal :=
  .next (detachStep .requests .profiles h (freeRequestsOf h) s)

/-- A profile becomes ORPHANED: no owner, MANUAL without loop state, and PROFILE_ORPHANED to each host with a
live request on it (R38). -/
def orphanProfile (owner : HostId) (id : Fin 16) (p : Profile) (s : State) : State :=
  allHosts.foldl
    (fun t h =>
      if t.requests.table.any (fun r => r.owner == h && r.profile == id) then
        postNotice h
          { kind := .profileOrphaned, subject := id.val, detail := owner.number } t
      else t)
    (s.setProfile id (some { p with life := .orphaned, mode := .manual }))

/-- One entry of the profile table at a detach: a LIVE profile of the host becomes ORPHANED if it is SHARED
and referenced, and is freed otherwise (R38). -/
def detachProfile (h : HostId) (s : State) (id : Fin 16) : State :=
  match s.profile id with
  | none => s
  | some p =>
    if p.life = .live h then
      if p.sharing = .shared ∧ p.references ≠ 0 then orphanProfile h id p s
      else s.setProfile id none
    else s

/-- DETACH_PROFILES (R38), step 3 of R149, in ascending id order. -/
def execDetachProfiles (h : HostId) (s : State) : Host.Outcome State Fault Refusal :=
  .next (detachStep .profiles .records h (fun t => allProfileIds.foldl (detachProfile h) t) s)

/-- DETACH_EMPTY_RECORD_QUEUE (R139), step 4 of R149. -/
def execDetachEmptyRecordQueue (h : HostId) (s : State) : Host.Outcome State Fault Refusal :=
  .next (detachStep .records .direct h (fun t => t.setMailbox h .atReset) s)

/-- A direct command of the host that waits for a drain is dropped (R126). -/
def dropWaitingDirect (h : HostId) (s : State) : State :=
  match s.link.waiting with
  | some (.direct c) => if c.port = h then { s with link.waiting := none } else s
  | _ => s

/-- A direct command of the host ends without answer: its transaction drains, or the link goes to IDLE
between two attempts (R126). -/
def endDirect (h : HostId) (s : State) : State :=
  match s.link.state with
  | .direct w =>
    if w.command.port = h then
      match w.bus with
      | some t => s.setLinkState (.draining { bus := t, records := none })
      | none => linkIdle s
    else s
  | _ => s

/-- DETACH_END_DIRECT_COMMAND (R126), step 5 of R149. -/
def execDetachEndDirectCommand (h : HostId) (s : State) : Host.Outcome State Fault Refusal :=
  .next (detachStep .direct .claim h (fun t => endDirect h (dropWaitingDirect h t)) s)

/-- The claim becomes free if the host holds it, without a notice (R163). -/
def freeClaim (h : HostId) (s : State) : State :=
  if s.holdsClaim h then { s with engine.claim := none } else s

/-- DETACH_FREE_CLAIM (R163), step 6 of R149, and the end of the detach: the buffer becomes EMPTY, or READY
with the answer of the DETACH that began it, and DISCARDED is cleared (R150, R151). -/
def execDetachFreeClaim (h : HostId) (s : State) : Host.Outcome State Fault Refusal :=
  match (s.port h).detaching with
  | none => .next s
  | some d =>
    if d.next = .claim then
      .next
        (freeClaim h
          (s.setPort h
            { s.port h with
              detaching := none
              discarded := false
              buffer := match d.answers with
                | some _ => .ready { status := .ok, results := [] }
                | none => .empty }))
    else .next s

/-! ### GET_STATUS (R153) -/

/-- The 19 result bytes of GET_STATUS (R153). -/
def statusResults (h : HostId) (s : State) : List Byte :=
  let p := s.port h
  let m := s.mailbox h
  beBytes 1 h.number ++ beBytes 1 (bit 0 p.attached) ++ beBytes 1 s.engine.state.code
    ++ beBytes 1 s.engine.fault.code
    ++ (match s.engine.claim with
      | some c => beBytes 1 c.holder.number
      | none => [0xFF])
    ++ beBytes 1 p.mask ++ beBytes 1 p.notices.length ++ beBytes 1 m.queue.length
    ++ beBytes 1 m.pendingLoss ++ beBytes 2 m.holdLimit ++ beBytes 4 m.lastDiscarded.toNat
    ++ beBytes 4 s.sequencer.frameNumber.toNat

/-- GET_STATUS, which makes no attach check (R152, R153). -/
def getStatus (h : HostId) (cmd : Handed) (s : State) : Reply :=
  ifRange (noArgs cmd.args) s fun _ => accept (statusResults h s) s

/-- GET_STATUS (R153). -/
def execGetStatus (h : HostId) (s : State) : Host.Outcome State Fault Refusal :=
  .next (takeCommand .getStatus h (getStatus h) s)

/-! ### Notices and attention (R156, R159) -/

/-- The 5 result bytes of GET_NOTICE for a notice with `left` entries left (R156, R157). -/
def noticeResults (n : Notice) (left : Nat) : List Byte :=
  [n.kind.toByte] ++ beBytes 2 n.subject ++ beBytes 1 n.detail ++ beBytes 1 left

/-- GET_NOTICE: the head entry is removed and returned (R156). -/
def getNotice (h : HostId) (cmd : Handed) (s : State) : Reply :=
  ifRange (noArgs cmd.args) s fun _ =>
    match (s.port h).notices with
    | [] => refuse .empty s
    | n :: rest =>
      accept (noticeResults n rest.length) (s.setPort h { s.port h with notices := rest })

/-- GET_NOTICE (R156). -/
def execGetNotice (h : HostId) (s : State) : Host.Outcome State Fault Refusal :=
  .next (takeCommand .getNotice h (ifAttached h (getNotice h)) s)

/-- SET_ATTENTION: the mask takes the value given (R159). -/
def setAttention (h : HostId) (cmd : Handed) (s : State) : Reply :=
  ifRange (maskArg cmd.args) s fun mask => accept [] (s.setPort h { s.port h with mask := mask })

/-- SET_ATTENTION (R159). -/
def execSetAttention (h : HostId) (s : State) : Host.Outcome State Fault Refusal :=
  .next (takeCommand .setAttention h (ifAttached h (setAttention h)) s)

end Sys2Proof.Machine
end

