-- ==== Sys2Proof/Machine/Profiles.lean ====
section
/-! DEFINITION. The commands of the Profile Manager (Chapter 2) and of Exposure Control (Chapter 5). -/

namespace Sys2Proof.Machine

/-! ### Creating and reading (R29, R31) -/

/-- A profile as CREATE_PROFILE makes it (Table 2-2), for a sensor of the given size. -/
def newProfile (h : HostId) (sensorWidth sensorHeight : Nat) : Profile :=
  { sharing := .ownerOnly
    life := .live h
    mode := .manual
    baseExposure := 10000
    baseGain := 16
    exposureMin := 10
    exposureMax := 1000000
    gainMin := 16
    gainMax := 256
    target := 512
    tolerance := 32
    window := { x := 0, y := 0, width := sensorWidth, height := sensorHeight }
    steps := [{ shift := 0, offset := 0 }]
    references := 0 }

/-- The lowest id whose entry is free (R24). -/
def lowestFreeId (s : State) : Option (Fin 16) := allProfileIds.find? fun id => (s.profile id).isNone

/-- CREATE_PROFILE: quota, then room, then the entry of the lowest free id (R29). -/
def createProfile (h : HostId) (cmd : Handed) (s : State) : Reply :=
  ifRange (noArgs cmd.args) s fun _ =>
    if (s.engine.quotas.get h).profiles ≤ s.profilesOwned h then refuse .quota s
    else
      match lowestFreeId s with
      | none => refuse .tableFull s
      | some id =>
        accept (beBytes 1 id.val)
          (s.setProfile id
            (some (newProfile h s.link.description.width s.link.description.height)))

/-- CREATE_PROFILE (R29). -/
def execCreateProfile (h : HostId) (s : State) : Host.Outcome State Fault Refusal :=
  .next (takeCommand .createProfile h (ifAttached h (createProfile h)) s)

/-- The code of a mode (Table 2-3). -/
def Mode.code : Mode → Nat
  | .manual => 0
  | .auto _ => 1
  | .tuning _ => 2

/-- The loop state of a mode; absent in MANUAL (R88). -/
def Mode.loop : Mode → Option Loop
  | .manual => none
  | .auto l => some l
  | .tuning l => some l

/-- The two signed bytes of a step (Table 2-3). -/
def BracketStep.bytes (t : BracketStep) : List Byte := [ofSigned t.shift, ofSigned t.offset]

/-- The 46 result bytes of READ_PROFILE (Table 2-3). -/
def profileResults (id : Fin 16) (p : Profile) : List Byte :=
  let life : Byte × Byte := match p.life with
    | .live owner => (BitVec.ofNat 8 owner.number, 0)
    | .orphaned => (0xFF, 1)
  let sharing := match p.sharing with
    | .ownerOnly => 0
    | .shared => 1
  let loop : Byte × Byte := match p.mode.loop with
    | some l => (BitVec.ofNat 8 l.converge, BitVec.ofNat 8 l.tuneFrames)
    | none => (0xFF, 0xFF)
  beBytes 1 id.val ++ [life.1] ++ beBytes 1 sharing ++ [life.2] ++ beBytes 1 p.mode.code
    ++ beBytes 4 p.baseExposure ++ beBytes 2 p.baseGain ++ beBytes 4 p.exposureMin
    ++ beBytes 4 p.exposureMax ++ beBytes 2 p.gainMin ++ beBytes 2 p.gainMax ++ beBytes 2 p.target
    ++ beBytes 1 p.tolerance ++ beBytes 2 p.window.x ++ beBytes 2 p.window.y
    ++ beBytes 2 p.window.width ++ beBytes 2 p.window.height ++ beBytes 1 p.steps.length
    ++ (p.steps.flatMap BracketStep.bytes ++ List.replicate 8 0).take 8
    ++ beBytes 1 p.references ++ [loop.1, loop.2]

/-- READ_PROFILE, open to every attached host (R31). -/
def readProfile (cmd : Handed) (s : State) : Reply :=
  ifRange (profileArg cmd.args) s fun id =>
    match s.profile id with
    | none => refuse .noSuch s
    | some p => accept (profileResults id p) s

/-- READ_PROFILE (R31). -/
def execReadProfile (h : HostId) (s : State) : Host.Outcome State Fault Refusal :=
  .next (takeCommand .readProfile h (ifAttached h readProfile) s)

/-! ### Editing (R28, R30, R32 to R37) -/

/-- The checks of R28 after RANGE, for a command open to the owner of a LIVE profile alone: NO_SUCH,
NOT_OWNER; then the command's own checks, and the entry it leaves (none frees it). -/
def editProfile (h : HostId) (id : Fin 16) (s : State)
    (edit : Profile → Except Status (Option Profile)) : Reply :=
  match s.profile id with
  | none => refuse .noSuch s
  | some p =>
    if p.life = .live h then
      match edit p with
      | .ok q => accept [] (s.setProfile id q)
      | .error status => refuse status s
    else refuse .notOwner s

/-- DELETE_PROFILE: refused IN_USE while referenced, else the entry is freed (R30). -/
def deleteProfile (h : HostId) (cmd : Handed) (s : State) : Reply :=
  ifRange (profileArg cmd.args) s fun id =>
    editProfile h id s fun p => if p.references ≠ 0 then .error .inUse else .ok none

/-- DELETE_PROFILE (R30). -/
def execDeleteProfile (h : HostId) (s : State) : Host.Outcome State Fault Refusal :=
  .next (takeCommand .deleteProfile h (ifAttached h (deleteProfile h)) s)

/-- SET_EXPOSURE: refused MODE in AUTO and TUNING, else both base values are replaced (R32). -/
def setExposure (h : HostId) (cmd : Handed) (s : State) : Reply :=
  ifRange (setExposureArgs cmd.args) s fun a =>
    editProfile h a.1 s fun p =>
      if p.mode = .manual then .ok (some { p with baseExposure := a.2.1, baseGain := a.2.2 })
      else .error .mode

/-- SET_EXPOSURE (R32). -/
def execSetExposure (h : HostId) (s : State) : Host.Outcome State Fault Refusal :=
  .next (takeCommand .setExposure h (ifAttached h (setExposure h)) s)

/-- SET_LIMITS: the four limits are replaced, in every mode (R33). -/
def setLimits (h : HostId) (cmd : Handed) (s : State) : Reply :=
  ifRange (setLimitsArgs cmd.args) s fun a =>
    editProfile h a.1 s fun p =>
      .ok
        (some
          { p with
            exposureMin := a.2.exposureMin
            exposureMax := a.2.exposureMax
            gainMin := a.2.gainMin
            gainMax := a.2.gainMax })

/-- SET_LIMITS (R33). -/
def execSetLimits (h : HostId) (s : State) : Host.Outcome State Fault Refusal :=
  .next (takeCommand .setLimits h (ifAttached h (setLimits h)) s)

/-- SET_TARGET: target level and tolerance are replaced, in every mode (R34). -/
def setTarget (h : HostId) (cmd : Handed) (s : State) : Reply :=
  ifRange (setTargetArgs cmd.args) s fun a =>
    editProfile h a.1 s fun p => .ok (some { p with target := a.2.1, tolerance := a.2.2 })

/-- SET_TARGET (R34). -/
def execSetTarget (h : HostId) (s : State) : Host.Outcome State Fault Refusal :=
  .next (takeCommand .setTarget h (ifAttached h (setTarget h)) s)

/-- SET_WINDOW: the window is replaced, in every mode and at any reference count (R35). -/
def setWindow (h : HostId) (cmd : Handed) (s : State) : Reply :=
  ifRange (setWindowArgs s.link.description.width s.link.description.height cmd.args) s fun a =>
    editProfile h a.1 s fun p => .ok (some { p with window := a.2 })

/-- SET_WINDOW (R35). -/
def execSetWindow (h : HostId) (s : State) : Host.Outcome State Fault Refusal :=
  .next (takeCommand .setWindow h (ifAttached h (setWindow h)) s)

/-- SET_STEPS: a change of step count is refused IN_USE while referenced; else the whole list is replaced
(R36). -/
def setSteps (h : HostId) (cmd : Handed) (s : State) : Reply :=
  ifRange (setStepsArgs cmd.args) s fun a =>
    editProfile h a.1 s fun p =>
      if a.2.length ≠ p.steps.length ∧ p.references ≠ 0 then .error .inUse
      else .ok (some { p with steps := a.2 })

/-- SET_STEPS (R36). -/
def execSetSteps (h : HostId) (s : State) : Host.Outcome State Fault Refusal :=
  .next (takeCommand .setSteps h (ifAttached h (setSteps h)) s)

/-- A live request of a host other than the owner names the profile (R37). -/
def usedByOther (s : State) (h : HostId) (id : Fin 16) : Bool :=
  s.requests.table.any fun r => r.profile == id && r.owner != h

/-- SHARE: a change to PRIVATE is refused IN_USE while another host's live request names the profile; else
the sharing takes the value (R37). -/
def share (h : HostId) (cmd : Handed) (s : State) : Reply :=
  ifRange (shareArgs cmd.args) s fun a =>
    editProfile h a.1 s fun p =>
      if a.2 = .ownerOnly ∧ p.sharing = .shared ∧ usedByOther s h a.1 then .error .inUse
      else .ok (some { p with sharing := a.2 })

/-- SHARE (R37). -/
def execShare (h : HostId) (s : State) : Host.Outcome State Fault Refusal :=
  .next (takeCommand .share h (ifAttached h (share h)) s)

/-! ### The mode commands (R89, R90) -/

/-- The mode after SET_MODE on a profile not in TUNING (the table of R89). -/
def Mode.asked (m : Mode) : AskedMode → Mode
  | .manual => .manual
  | .auto =>
    match m with
    | .auto loop => .auto loop
    | _ => .auto { converge := 0, tuneFrames := 0 }

/-- SET_MODE: refused MODE in TUNING, else the table of R89. -/
def setMode (h : HostId) (cmd : Handed) (s : State) : Reply :=
  ifRange (setModeArgs cmd.args) s fun a =>
    editProfile h a.1 s fun p =>
      match p.mode with
      | .tuning _ => .error .mode
      | m => .ok (some { p with mode := m.asked a.2 })

/-- SET_MODE (R89). -/
def execSetMode (h : HostId) (s : State) : Host.Outcome State Fault Refusal :=
  .next (takeCommand .setMode h (ifAttached h (setMode h)) s)

/-- TUNE: refused MODE unless MANUAL, NOT_IN_USE without an ACTIVE request; else TUNING with both counts 0
(R90). -/
def tune (h : HostId) (cmd : Handed) (s : State) : Reply :=
  ifRange (profileArg cmd.args) s fun id =>
    editProfile h id s fun p =>
      if p.mode ≠ .manual then .error .mode
      else if !s.hasActiveUser id then .error .notInUse
      else .ok (some { p with mode := .tuning { converge := 0, tuneFrames := 0 } })

/-- TUNE (R90). -/
def execTune (h : HostId) (s : State) : Host.Outcome State Fault Refusal :=
  .next (takeCommand .tune h (ifAttached h (tune h)) s)

end Sys2Proof.Machine
end

