-- ==== Sys2Proof/Machine/Records.lean ====
section
/-! DEFINITION. The record queue commands (R134, R135, R137) and the hold timeout (R136). -/

namespace Sys2Proof.Machine

/-- The statistics bytes of FETCH_RECORD; all ones where they are absent (Table 8-2). -/
def statisticsBytes : Option Statistics → List Byte
  | some x =>
    beBytes 2 x.mean ++ x.histogram.toList.flatMap (beBytes 2) ++ beBytes 2 x.clipShare
  | none => List.replicate 20 0xFF

/-- The 48 result bytes of FETCH_RECORD (Table 8-2). -/
def recordResults (inQueue : Nat) (r : Record) : List Byte :=
  beBytes 1 inQueue ++ beBytes 4 r.frameNumber.toNat ++ beBytes 2 r.generation.toNat
    ++ beBytes 1 r.slotIndex ++ beBytes 1 r.profile.val ++ beBytes 1 r.stepIndex
    ++ beBytes 1 r.tags.length ++ (r.tags.flatMap (beBytes 1) ++ List.replicate 4 0).take 4
    ++ beBytes 4 r.exposure ++ beBytes 2 r.gain ++ beBytes 1 (recordFlags r)
    ++ beBytes 1 r.outcome.reasonCode ++ beBytes 1 (r.lost.getD 0) ++ statisticsBytes r.statistics
    ++ beBytes 4 r.arrival.toNat

/-- FETCH_RECORD returns the head record and changes nothing (R134). -/
def fetchRecord (h : HostId) (cmd : Handed) (s : State) : Reply :=
  ifRange (noArgs cmd.args) s fun _ =>
    match (s.mailbox h).queue with
    | [] => refuse .empty s
    | r :: rest => accept (recordResults (rest.length + 1) r) s

/-- FETCH_RECORD (R134). -/
def execFetchRecord (h : HostId) (s : State) : Host.Outcome State Fault Refusal :=
  .next (takeCommand .fetchRecord h (ifAttached h (fetchRecord h)) s)

/-- What ACK_RECORD answers when the number is not the head's: EXPIRED, EMPTY or SEQUENCE, the first that
holds (R135). -/
def notHead (m : Mailbox) (number : BitVec 32) : Status :=
  if !m.queue.any (·.frameNumber == number) && !higher number m.lastDiscarded then .expired
  else if m.queue.isEmpty then .empty
  else .sequence

/-- ACK_RECORD removes the head record if it names its frame number (R135). -/
def ackRecord (h : HostId) (cmd : Handed) (s : State) : Reply :=
  ifRange (ackArg cmd.args) s fun number =>
    let m := s.mailbox h
    match m.queue with
    | [] => refuse (notHead m number) s
    | r :: rest =>
      if r.frameNumber = number then
        accept (beBytes 1 rest.length)
          (acknowledgementReport h r.tags (s.setMailbox h { m with queue := rest }))
      else refuse (notHead m number) s

/-- ACK_RECORD (R135). -/
def execAckRecord (h : HostId) (s : State) : Host.Outcome State Fault Refusal :=
  .next (takeCommand .ackRecord h (ifAttached h (ackRecord h)) s)

/-- SET_HOLD: the new limit replaces the old one at once, and the records already that old are discarded, the
head first (R137). DEDUCED: their age is that of R129, through the wrap, so that a record more than 71 minutes
old may stay while one behind it goes (assumption 26). -/
def setHold (h : HostId) (cmd : Handed) (s : State) : Reply :=
  ifRange (holdArg cmd.args) s fun limit =>
    let m := s.mailbox h
    let expired := m.queue.filter (Record.holdOver limit s.delivery.clock)
    accept (beBytes 1 expired.length)
      (expired.foldl (discardRecord h) (s.setMailbox h { m with holdLimit := limit }))

/-- SET_HOLD (R137). -/
def execSetHold (h : HostId) (s : State) : Host.Outcome State Fault Refusal :=
  .next (takeCommand .setHold h (ifAttached h (setHold h)) s)

/-- The first record of a host's queue whose hold has run out (R136). DEDUCED: by its age of R129, through the
wrap; it stands behind the head only where the head is more than 71 minutes old (assumption 26). -/
def overdueRecord (s : State) (h : HostId) : Option Record :=
  (s.mailbox h).queue.find? (Record.holdOver (s.mailbox h).holdLimit s.delivery.clock)

/-- HOLD_TIMEOUT (R136): the record whose hold has run out is discarded. While none has, the happening does
not fall (assumption 3). -/
def execHoldTimeout (h : HostId) (s : State) : Host.Outcome State Fault Refusal :=
  match overdueRecord s h with
  | some r => .next (discardRecord h s r)
  | none => .next s

end Sys2Proof.Machine
end

