-- ==== Sys2Proof/Machine/Requests.lean ====
section
/-! DEFINITION. The commands of the Request Manager (Chapter 1): SUBMIT, CANCEL, RESUME, QUERY_REQUEST,
LIST_REQUESTS. -/

namespace Sys2Proof.Machine

/-! ### SUBMIT (R2, R8 to R10) -/

/-- The first value from `n` on that no live request holds, among `fuel` + 1 values (R2). -/
def firstFreeSequence (table : List Request) : Nat → BitVec 32 → BitVec 32
  | 0, n => n
  | fuel + 1, n =>
    if table.any (·.sequence == n) then firstFreeSequence table fuel (n + 1) else n

/-- The admission sequence of a new request: the counter raised by one, and again while a live request holds
the value (R2). As many tries as there are live requests suffice. -/
def nextSequence (m : RequestManager) : BitVec 32 :=
  firstFreeSequence m.table m.table.length (m.counter + 1)

/-- A profile is usable by a host: the host owns it, or it is SHARED and LIVE (R8). -/
def Profile.usableBy (p : Profile) (h : HostId) : Bool :=
  match p.life with
  | .live owner => owner == h || p.sharing == .shared
  | .orphaned => false

/-- The entry an accepted SUBMIT fills (R10). -/
def admitted (h : HostId) (a : SubmitArgs) (sequence : BitVec 32) : Request :=
  { owner := h
    tag := a.tag
    kind := a.kind
    profile := a.profile
    period := a.period
    preferredPhase := a.preferredPhase
    priority := a.priority
    missLimit := a.missLimit
    misses := 0
    sequence := sequence
    state := .pending }

/-- An accepted SUBMIT: the entry, the counter, the profile's reference count and the trigger (R10). -/
def admitRequest (h : HostId) (a : SubmitArgs) (s : State) : State :=
  let n := nextSequence s.requests
  trigger
    (raiseReference a.profile
      { s with requests := { table := s.requests.table ++ [admitted h a n], counter := n } })

/-- Checks 3 to 8 of Table 1-4 and the admission (R8 to R10). -/
def submit (h : HostId) (cmd : Handed) (s : State) : Reply :=
  ifRange (submitArgs cmd.args) s fun a =>
    if (s.request h a.tag).isSome then refuse .duplicate s
    else
      match s.profile a.profile with
      | none => refuse .noSuch s
      | some p =>
        if !p.usableBy h then refuse .notOwner s
        else if a.period < p.steps.length then refuse .range s
        else if (s.engine.quotas.get h).requests ≤ (s.requestsOf h).length then refuse .quota s
        else if requestEntries ≤ s.requests.table.length then refuse .tableFull s
        else accept (beBytes 4 (nextSequence s.requests).toNat) (admitRequest h a s)

/-- SUBMIT (R10). -/
def execSubmit (h : HostId) (s : State) : Host.Outcome State Fault Refusal :=
  .next (takeCommand .submit h (ifAttached h (submit h)) s)

/-! ### CANCEL, RESUME, QUERY_REQUEST, LIST_REQUESTS (R11 to R14) -/

/-- The checks of a command that names one of the host's requests by its tag: RANGE, then NO_SUCH (R11). -/
def withRequest (h : HostId) (cmd : Handed) (s : State) (run : Request → Reply) : Reply :=
  ifRange (tagArg cmd.args) s fun tag =>
    match s.request h tag with
    | none => refuse .noSuch s
    | some r => run r

/-- CANCEL: the entry is freed from whatever state, CANCELLED posted, and a rebuild asked for if R7 calls for
one (R11). -/
def cancelled (r : Request) (s : State) : State :=
  rebuildIfWaiting r.isActive
    (tellLeft r
      (postNotice r.owner { kind := .cancelled, subject := r.tag, detail := 0 } (freeEntry r s)))

/-- CANCEL (R11). -/
def execCancel (h : HostId) (s : State) : Host.Outcome State Fault Refusal :=
  .next
    (takeCommand .cancel h
      (ifAttached h fun cmd t => withRequest h cmd t fun r => accept [] (cancelled r t)) s)

/-- RESUME: a SUSPENDED request becomes PENDING with no misses; any other is refused STATE (R12). -/
def resume (h : HostId) (cmd : Handed) (s : State) : Reply :=
  withRequest h cmd s fun r =>
    if r.state = .suspended then
      accept []
        (trigger
          (s.updateRequest h r.tag fun q => { q with misses := 0, state := .pending }))
    else refuse .state s

/-- RESUME (R12). -/
def execResume (h : HostId) (s : State) : Host.Outcome State Fault Refusal :=
  .next (takeCommand .resume h (ifAttached h (resume h)) s)

/-- The 18 result bytes of QUERY_REQUEST (R13). -/
def requestResults (r : Request) : List Byte :=
  let kind := match r.kind with
    | .stream => 0
    | .burst _ _ => 1
  let counts := match r.kind with
    | .stream => (0, 0)
    | .burst count done => (count, done)
  let phase := match r.state with
    | .active p => p
    | _ => 0xFF
  beBytes 1 r.tag ++ beBytes 1 kind ++ beBytes 1 r.state.code ++ beBytes 1 r.profile.val
    ++ beBytes 1 r.period ++ beBytes 1 r.preferredPhase ++ beBytes 1 r.priority
    ++ beBytes 1 r.missLimit ++ beBytes 1 r.misses ++ beBytes 2 counts.1 ++ beBytes 2 counts.2
    ++ beBytes 1 phase ++ beBytes 4 r.sequence.toNat

/-- QUERY_REQUEST (R13). -/
def execQueryRequest (h : HostId) (s : State) : Host.Outcome State Fault Refusal :=
  .next
    (takeCommand .queryRequest h
      (ifAttached h fun cmd t => withRequest h cmd t fun r => accept (requestResults r) t) s)

/-- LIST_REQUESTS returns at most 29 pairs (R14). -/
def listLimit : Nat := 29

/-- The result bytes of LIST_REQUESTS: the number of pairs, the number of the host's live requests with tags
above the last one returned, then the pairs of tag and state in ascending tag order (R14). -/
def listResults (requests : List Request) (start : Nat) : List Byte :=
  let sorted := requests.insertionSort fun a b => a.tag ≤ b.tag
  let listed := (sorted.filter fun r => start ≤ r.tag).take listLimit
  let above := match listed.getLast? with
    | some last => requests.countP fun r => last.tag < r.tag
    | none => 0
  beBytes 1 listed.length ++ beBytes 1 above
    ++ listed.flatMap fun r => beBytes 1 r.tag ++ beBytes 1 r.state.code

/-- LIST_REQUESTS (R14). -/
def execListRequests (h : HostId) (s : State) : Host.Outcome State Fault Refusal :=
  .next
    (takeCommand .listRequests h
      (ifAttached h fun cmd t =>
        ifRange (tagArg cmd.args) t fun start => accept (listResults (t.requestsOf h) start) t) s)

end Sys2Proof.Machine
end

