-- ==== Sys2Proof/Machine/EngineControl.lean ====
section
/-! DEFINITION. Engine Control (Chapter 10): the claim, the configuration, the quotas, START and STOP. -/

namespace Sys2Proof.Machine

/-! ### The claim (R161 to R163) -/

/-- The claim held by a host, its timer started with the claim expiry in force (R161, R162). -/
def giveClaim (h : HostId) (s : State) : State :=
  { s with engine.claim := some { holder := h, timer := s.engine.claimExpiry * 1000 } }

/-- CLAIM by the claim as it stands (the table of R161). -/
def claim (h : HostId) (cmd : Handed) (s : State) : Reply :=
  ifRange (noArgs cmd.args) s fun _ =>
    match s.engine.claim with
    | none => accept [] (giveClaim h s)
    | some c => if c.holder = h then accept [] (giveClaim h s) else refuse .claimed s

/-- CLAIM (R161). -/
def execClaim (h : HostId) (s : State) : Host.Outcome State Fault Refusal :=
  .next (takeCommand .claim h (ifAttached h (claim h)) s)

/-- The check that the asking host holds the claim (NOT_CLAIMED). -/
def ifHolder (h : HostId) (s : State) (run : Reply) : Reply :=
  if s.holdsClaim h then run else refuse .notClaimed s

/-- The engine is STOPPED or HALTED. -/
def EngineState.isStill : EngineState → Bool
  | .stopped => true
  | .halted => true
  | _ => false

/-- RELEASE frees the claim of the host that holds it, without notice (R163). -/
def release (h : HostId) (cmd : Handed) (s : State) : Reply :=
  ifRange (noArgs cmd.args) s fun _ =>
    ifHolder h s (accept [] { s with engine.claim := none })

/-- RELEASE (R163). -/
def execRelease (h : HostId) (s : State) : Host.Outcome State Fault Refusal :=
  .next (takeCommand .release h (ifAttached h (release h)) s)

/-- CLAIM_EXPIRY (R162): the timer has run out; the claim becomes free and the former holder is told. Before
that, the happening does not fall (assumption 3). -/
def execClaimExpiry (s : State) : Host.Outcome State Fault Refusal :=
  match s.engine.claim with
  | none => .next s
  | some c =>
    if c.timer = 0 then
      .next
        (postNotice c.holder { kind := .claimExpired, subject := 0, detail := 0 }
          { s with engine.claim := none })
    else .next s

/-! ### The configuration (R164 to R166) -/

/-- One item takes a value; a change of the claim expiry restarts the holder's timer with it (R162,
R164). -/
def setItem (h : HostId) (s : State) : ConfigItem → State
  | .slotPeriod v => { s with engine.slotPeriod := v }
  | .claimExpiry v => giveClaim h { s with engine.claimExpiry := v }
  | .address v => { s with link.description.address := v }
  | .width v => { s with link.description.width := v }
  | .height v => { s with link.description.height := v }
  | .readout v => { s with link.description.readout := v }
  | .lineTime v => { s with link.description.lineTime := v }

/-- SET_CONFIG: RANGE, NOT_CLAIMED, STATE, then the item (R164). -/
def setConfig (h : HostId) (cmd : Handed) (s : State) : Reply :=
  ifRange (configArgs cmd.args) s fun item =>
    ifHolder h s (if s.engine.state.isStill then accept [] (setItem h s item) else refuse .state s)

/-- SET_CONFIG (R164). -/
def execSetConfig (h : HostId) (s : State) : Host.Outcome State Fault Refusal :=
  .next (takeCommand .setConfig h (ifAttached h (setConfig h)) s)

/-- The three bytes of a sensor map entry in READ_CONFIG (R165). -/
def MapEntry.bytes (e : MapEntry) : List Byte := beBytes 2 e.register.toNat ++ beBytes 1 e.count

/-- The two bytes of a host's quotas in READ_CONFIG (R165). -/
def Quota.bytes (q : Quota) : List Byte := beBytes 1 q.requests ++ beBytes 1 q.profiles

/-- The 45 result bytes of READ_CONFIG (R165). -/
def configResults (s : State) : List Byte :=
  let d := s.link.description
  beBytes 4 s.engine.slotPeriod ++ beBytes 2 s.engine.claimExpiry ++ beBytes 1 d.address.toNat
    ++ beBytes 2 d.width ++ beBytes 2 d.height ++ beBytes 4 d.readout ++ beBytes 4 d.lineTime
    ++ allKinds.flatMap (fun k => (s.link.map.get k).bytes)
    ++ allHosts.flatMap (fun h => (s.engine.quotas.get h).bytes)

/-- READ_CONFIG (R165). -/
def execReadConfig (h : HostId) (s : State) : Host.Outcome State Fault Refusal :=
  .next
    (takeCommand .readConfig h
      (ifAttached h fun cmd t => ifRange (noArgs cmd.args) t fun _ => accept (configResults t) t) s)

/-- The sum of a quota over the four hosts. -/
def quotaSum (quotas : PerHost Quota) (part : Quota → Nat) : Nat :=
  part quotas.h0 + part quotas.h1 + part quotas.h2 + part quotas.h3

/-- SET_QUOTA: RANGE, NOT_CLAIMED, RANGE for the totals, IN_USE for what the named host holds; then both
quotas (R166). -/
def setQuota (h : HostId) (cmd : Handed) (s : State) : Reply :=
  ifRange (quotaArgs cmd.args) s fun a =>
    let quotas := s.engine.quotas.set a.1 a.2
    ifHolder h s
      (if requestEntries < quotaSum quotas Quota.requests ∨ 16 < quotaSum quotas Quota.profiles then
        refuse .range s
      else if a.2.requests < (s.requestsOf a.1).length ∨ a.2.profiles < s.profilesOwned a.1 then
        refuse .inUse s
      else accept [] { s with engine.quotas := quotas })

/-- SET_QUOTA (R166). -/
def execSetQuota (h : HostId) (s : State) : Host.Outcome State Fault Refusal :=
  .next (takeCommand .setQuota h (ifAttached h (setQuota h)) s)

/-! ### START and STOP (R168, R169) -/

/-- The window of a profile lies within the sensor area (R168). -/
def windowInside (s : State) (id : Fin 16) : Bool :=
  match s.profile id with
  | some p =>
    decide (p.window.x + p.window.width ≤ s.link.description.width)
      && decide (p.window.y + p.window.height ≤ s.link.description.height)
  | none => true

/-- The two result bytes of CONFIG_INVALID, if the configuration is not valid: the slot period first, then
the lowest id whose window fails (R168). -/
def configFault (s : State) : Option (List Byte) :=
  if s.engine.slotPeriod < s.link.description.readout + 110 then some [1, 0xFF]
  else (allProfileIds.find? fun id => !windowInside s id).map fun id => 2 :: beBytes 1 id.val

/-- The Frame Sequencer takes up a new run: failure counters 0, before slot 0, no context, the setup point of
slot 0 at once, and the slot timer started (R68). -/
def takeUpRun (s : State) : State :=
  let t := setupPoint
    { s with
      sequencer.linkFailures := 0
      sequencer.stallFailures := 0
      sequencer.position := .beforeSlot0
      sequencer.next := none
      sequencer.present := none }
  { t with sequencer.slotTimer := some s.engine.slotPeriod }

/-- Steps 1 to 5 of an accepted START (R168). -/
def startEngine (s : State) : State :=
  takeUpRun
    (postToAll { kind := .engineStarted, subject := 0, detail := 0 }
      { forgetShadow { s with engine.fault := .none } with engine.state := .running })

/-- START: RANGE, NOT_CLAIMED, STATE, CONFIG_INVALID, then the run (R168). -/
def start (h : HostId) (cmd : Handed) (s : State) : Reply :=
  ifRange (noArgs cmd.args) s fun _ =>
    ifHolder h s
      (if s.engine.state.isStill then
        match configFault s with
        | some cause => { answer := some { status := .configInvalid, results := cause }, state := s }
        | none => accept [] (startEngine s)
      else refuse .state s)

/-- START (R168). -/
def execStart (h : HostId) (s : State) : Host.Outcome State Fault Refusal :=
  .next (takeCommand .start h (ifAttached h (start h)) s)

/-- STOP taken: the next-slot context is abandoned; with no frame in flight the engine is STOPPED at once,
else it is STOPPING and the answer waits (R84, R169). -/
def stopEngine (h : HostId) (serial : Nat) (s : State) : Reply :=
  let t := abandonNext s
  match s.sequencer.present with
  | none =>
    accept (beBytes 1 EngineState.stopped.code)
      (postToAll { kind := .engineStopped, subject := 0, detail := 0 }
        (stopTimers { t with engine.state := .stopped }))
  | some _ =>
    acceptPending { t with engine.state := .stopping, engine.stopWaiting := some (h, serial) }

/-- STOP: RANGE, NOT_CLAIMED, STATE unless RUNNING (R169). -/
def stop (h : HostId) (cmd : Handed) (s : State) : Reply :=
  ifRange (noArgs cmd.args) s fun _ =>
    ifHolder h s
      (if s.engine.state = .running then stopEngine h cmd.serial s else refuse .state s)

/-- STOP (R169). -/
def execStop (h : HostId) (s : State) : Host.Outcome State Fault Refusal :=
  .next (takeCommand .stop h (ifAttached h (stop h)) s)

end Sys2Proof.Machine
end

