-- ==== Sys2Proof/Machine/Sensor.lean ====
section
/-! DEFINITION. The Sensor Link's commands and happenings (Chapter 7): direct access, the sensor map, and the
beginning and the end of transactions. -/

namespace Sys2Proof.Machine

/-! ### Direct access and the map (R116, R124, R125) -/

/-- SENSOR_READ: RANGE, NOT_CLAIMED, BUSY, then the transaction, the response PENDING (R124). -/
def sensorRead (h : HostId) (cmd : Handed) (s : State) : Reply :=
  ifRange (sensorReadArgs cmd.args) s fun op =>
    ifHolder h s
      (if s.engine.state.isStill then
        acceptPending (handDirect { port := h, serial := cmd.serial, op := op } s)
      else refuse .busy s)

/-- SENSOR_READ (R124). -/
def execSensorRead (h : HostId) (s : State) : Host.Outcome State Fault Refusal :=
  .next (takeCommand .sensorRead h (ifAttached h (sensorRead h)) s)

/-- The shadow entries a direct operation sets unknown when it is taken: those a write overlaps, none for a
read (R124, R125). -/
def DirectOp.forget (s : State) : DirectOp → State
  | .read _ _ => s
  | .write register bytes => forgetOverlapping register bytes.length s

/-- SENSOR_WRITE: the same checks; the overlapping shadow entries become unknown, then the transaction
(R125). -/
def sensorWrite (h : HostId) (cmd : Handed) (s : State) : Reply :=
  ifRange (sensorWriteArgs cmd.args) s fun op =>
    ifHolder h s
      (if s.engine.state.isStill then
        acceptPending (handDirect { port := h, serial := cmd.serial, op := op } (op.forget s))
      else refuse .busy s)

/-- SENSOR_WRITE (R125). -/
def execSensorWrite (h : HostId) (s : State) : Host.Outcome State Fault Refusal :=
  .next (takeCommand .sensorWrite h (ifAttached h (sensorWrite h)) s)

/-- An entry of the sensor map replaced; a change makes the kind's shadow unknown (R116). -/
def replaceEntry (k : ParamKind) (e : MapEntry) (s : State) : State :=
  if s.link.map.get k = e then s
  else setShadow k none { s with link.map := s.link.map.set k e }

/-- SET_MAP: RANGE, NOT_CLAIMED, STATE, then the entry (R116). -/
def setMap (h : HostId) (cmd : Handed) (s : State) : Reply :=
  ifRange (setMapArgs cmd.args) s fun a =>
    ifHolder h s
      (if s.engine.state.isStill then accept [] (replaceEntry a.1 a.2 s) else refuse .state s)

/-- SET_MAP (R116). -/
def execSetMap (h : HostId) (s : State) : Host.Outcome State Fault Refusal :=
  .next (takeCommand .setMap h (ifAttached h (setMap h)) s)

/-! ### Transactions (R121 to R126) -/

/-- I2C_TRANSACTION_BEGIN (R121): the link begins the next transaction of its setup, or the retry of its
direct command. With none to begin, the happening does not fall (assumption 3). -/
def execI2cTransactionBegin (s : State) : Host.Outcome State Fault Refusal :=
  match s.link.state with
  | .setup w =>
    match w.bus, w.writes with
    | none, x :: _ =>
      .next (s.setLinkState (.setup { w with bus := some (x.transaction s.link), left := 0 }))
    | _, _ => .next s
  | .direct w =>
    match w.bus with
    | none =>
      .next
        (s.setLinkState
          (.direct { w with bus := some (w.command.op.transaction s.link), left := 0 }))
    | some _ => .next s
  | _ => .next s

/-- The write of a setup is acknowledged: its shadow entry takes the value, and the link goes on to the next
kind, or answers "setup complete" and goes to IDLE (R120). -/
def writeAcknowledged (w : SetupWork) (x : RegisterWrite) (rest : List RegisterWrite) (s : State) :
    State :=
  let t := setShadow x.kind (some x.value) s
  match rest with
  | [] => linkIdle (answerSetup w.setup true t)
  | _ :: _ =>
    t.setLinkState
      (.setup { w with writes := rest, retry := false, bus := none, left := nextWriteTime })

/-- The write of a setup meets a NACK: its shadow entry becomes unknown, and it is retried, or at the retry
the setup fails (R122). -/
def writeRefused (w : SetupWork) (x : RegisterWrite) (s : State) : State :=
  let t := setShadow x.kind none s
  if w.retry then linkIdle (answerSetup w.setup false t)
  else t.setLinkState (.setup { w with retry := true, bus := none, left := nextWriteTime })

/-- SETUP_WRITE_END (R122). With no write of a setup on the bus, the happening does not fall
(assumption 3). -/
def execSetupWriteEnd (answer : BusAnswer) (s : State) : Host.Outcome State Fault Refusal :=
  match s.link.state with
  | .setup w =>
    match w.bus, w.writes with
    | some _, x :: rest =>
      match answer with
      | .acknowledged => .next (writeAcknowledged w x rest s)
      | .nack _ => .next (writeRefused w x s)
    | _, _ => .next s
  | _ => .next s

/-- The shadow at the end of a drain: the value of a setup's write acknowledged in full, unknown after a
NACK, nothing for a direct command or after a START (R118, R123, R126). -/
def recordDrain (w : DrainWork) (answer : BusAnswer) (s : State) : State :=
  match w.records with
  | none => s
  | some (k, v) =>
    match answer with
    | .acknowledged => setShadow k (some v) s
    | .nack _ => setShadow k none s

/-- DRAIN_END (R123): the drained transaction ends without answer, and the link goes to IDLE and takes up any
waiting work. -/
def execDrainEnd (answer : BusAnswer) (s : State) : Host.Outcome State Fault Refusal :=
  match s.link.state with
  | .draining w => .next (linkIdle (recordDrain w answer s))
  | _ => .next s

/-- A direct command is answered and the link goes to IDLE (R124, R125, R147). -/
def finishDirect (w : DirectWork) (r : Response) (s : State) : State :=
  linkIdle (deliverAnswer w.command.port w.command.serial r s)

/-- A direct transaction meets a NACK: made once more, or SENSOR_NACK after the second (R124, R125). -/
def directRefused (w : DirectWork) (s : State) : State :=
  if w.retry then finishDirect w (.refusal .sensorNack) s
  else s.setLinkState (.direct { w with retry := true, bus := none, left := nextWriteTime })

/-- DIRECT_READ_END (R124): the data bytes are answered OK, or the transaction was refused; on the bus it was
`Transaction.signals`, or `Transaction.refusedSignals`. With no read of
as many bytes on the bus, the happening does not fall (assumption 3). -/
def execDirectReadEnd (answer : ReadAnswer) (s : State) : Host.Outcome State Fault Refusal :=
  match s.link.state with
  | .direct w =>
    match w.bus, w.command.op with
    | some _, .read _ count =>
      match answer with
      | .data bytes =>
        if bytes.length = count then
          .next (finishDirect w { status := .ok, results := bytes } s)
        else .next s
      | .nack _ => .next (directRefused w s)
    | _, _ => .next s
  | _ => .next s

/-- DIRECT_WRITE_END (R125): acknowledged in full, answered OK; else refused. With no direct write on the
bus, the happening does not fall (assumption 3). -/
def execDirectWriteEnd (answer : BusAnswer) (s : State) : Host.Outcome State Fault Refusal :=
  match s.link.state with
  | .direct w =>
    match w.bus, w.command.op with
    | some _, .write _ _ =>
      match answer with
      | .acknowledged => .next (finishDirect w { status := .ok, results := [] } s)
      | .nack _ => .next (directRefused w s)
    | _, _ => .next s
  | _ => .next s

end Sys2Proof.Machine
end

