-- ==== Sys2Proof/Machine/Dispatch.lean ====
section
/-! DEFINITION. The dispatch: one arm for each command, each a direct call of its meaning. -/

namespace Sys2Proof.Machine

/-- The effect of a command on everything but the queue of waiting commands. -/
def exec (i : Instr) (s : State) : Host.Outcome State Fault Refusal :=
  match i with
  | .powerOn => Sys2Proof.Machine.execPowerOn s
  | .hrstPulse h => Sys2Proof.Machine.execHrstPulse h s
  | .hrstRelease h => Sys2Proof.Machine.execHrstRelease h s
  | .commandTransaction h moment => Sys2Proof.Machine.execCommandTransaction h moment s
  | .responseRead h moment => Sys2Proof.Machine.execResponseRead h moment s
  | .statusPoll h direction moment => Sys2Proof.Machine.execStatusPoll h direction moment s
  | .commandAnswer h => Sys2Proof.Machine.execCommandAnswer h s
  | .attach h => Sys2Proof.Machine.execAttach h s
  | .detach h => Sys2Proof.Machine.execDetach h s
  | .detachFreeRequests h => Sys2Proof.Machine.execDetachFreeRequests h s
  | .detachProfiles h => Sys2Proof.Machine.execDetachProfiles h s
  | .detachEmptyRecordQueue h => Sys2Proof.Machine.execDetachEmptyRecordQueue h s
  | .detachEndDirectCommand h => Sys2Proof.Machine.execDetachEndDirectCommand h s
  | .detachFreeClaim h => Sys2Proof.Machine.execDetachFreeClaim h s
  | .getStatus h => Sys2Proof.Machine.execGetStatus h s
  | .getNotice h => Sys2Proof.Machine.execGetNotice h s
  | .setAttention h => Sys2Proof.Machine.execSetAttention h s
  | .submit h => Sys2Proof.Machine.execSubmit h s
  | .cancel h => Sys2Proof.Machine.execCancel h s
  | .resume h => Sys2Proof.Machine.execResume h s
  | .queryRequest h => Sys2Proof.Machine.execQueryRequest h s
  | .listRequests h => Sys2Proof.Machine.execListRequests h s
  | .createProfile h => Sys2Proof.Machine.execCreateProfile h s
  | .deleteProfile h => Sys2Proof.Machine.execDeleteProfile h s
  | .readProfile h => Sys2Proof.Machine.execReadProfile h s
  | .setExposure h => Sys2Proof.Machine.execSetExposure h s
  | .setLimits h => Sys2Proof.Machine.execSetLimits h s
  | .setTarget h => Sys2Proof.Machine.execSetTarget h s
  | .setWindow h => Sys2Proof.Machine.execSetWindow h s
  | .setSteps h => Sys2Proof.Machine.execSetSteps h s
  | .share h => Sys2Proof.Machine.execShare h s
  | .setMode h => Sys2Proof.Machine.execSetMode h s
  | .tune h => Sys2Proof.Machine.execTune h s
  | .rebuild h => Sys2Proof.Machine.execRebuild h s
  | .readSlot h => Sys2Proof.Machine.execReadSlot h s
  | .getCalendarInfo h => Sys2Proof.Machine.execGetCalendarInfo h s
  | .fetchRecord h => Sys2Proof.Machine.execFetchRecord h s
  | .ackRecord h => Sys2Proof.Machine.execAckRecord h s
  | .setHold h => Sys2Proof.Machine.execSetHold h s
  | .claim h => Sys2Proof.Machine.execClaim h s
  | .release h => Sys2Proof.Machine.execRelease h s
  | .setConfig h => Sys2Proof.Machine.execSetConfig h s
  | .readConfig h => Sys2Proof.Machine.execReadConfig h s
  | .setQuota h => Sys2Proof.Machine.execSetQuota h s
  | .start h => Sys2Proof.Machine.execStart h s
  | .stop h => Sys2Proof.Machine.execStop h s
  | .sensorRead h => Sys2Proof.Machine.execSensorRead h s
  | .sensorWrite h => Sys2Proof.Machine.execSensorWrite h s
  | .setMap h => Sys2Proof.Machine.execSetMap h s
  | .claimExpiry => Sys2Proof.Machine.execClaimExpiry s
  | .holdTimeout h => Sys2Proof.Machine.execHoldTimeout h s
  | .buildComplete => Sys2Proof.Machine.execBuildComplete s
  | .slotStart => Sys2Proof.Machine.execSlotStart s
  | .exposureTimerExpiry => Sys2Proof.Machine.execExposureTimerExpiry s
  | .frameStart => Sys2Proof.Machine.execFrameStart s
  | .videoLine pixels cut => Sys2Proof.Machine.execVideoLine pixels cut s
  | .frameEnd => Sys2Proof.Machine.execFrameEnd s
  | .i2cTransactionBegin => Sys2Proof.Machine.execI2cTransactionBegin s
  | .setupWriteEnd answer => Sys2Proof.Machine.execSetupWriteEnd answer s
  | .drainEnd answer => Sys2Proof.Machine.execDrainEnd answer s
  | .directReadEnd answer => Sys2Proof.Machine.execDirectReadEnd answer s
  | .directWriteEnd answer => Sys2Proof.Machine.execDirectWriteEnd answer s
  | .resetRelease => Sys2Proof.Machine.execResetRelease s

end Sys2Proof.Machine
end

