-- ==== Sys2Proof/Machine/Time.lean ====
section
/-! DEFINITION. Time (assumption 4). The handbook has no row for the passing of time; with no command waiting
one microsecond passes, unless a happening that the part itself makes is due, which then falls. -/

namespace Sys2Proof.Machine

/-- The owning block's taking of a command that a port has handed on. -/
def takingOf (h : HostId) : CommandCode → Instr
  | .attach => .attach h
  | .detach => .detach h
  | .getStatus => .getStatus h
  | .getNotice => .getNotice h
  | .setAttention => .setAttention h
  | .submit => .submit h
  | .cancel => .cancel h
  | .resume => .resume h
  | .queryRequest => .queryRequest h
  | .listRequests => .listRequests h
  | .createProfile => .createProfile h
  | .deleteProfile => .deleteProfile h
  | .readProfile => .readProfile h
  | .setExposure => .setExposure h
  | .setLimits => .setLimits h
  | .setTarget => .setTarget h
  | .setWindow => .setWindow h
  | .setSteps => .setSteps h
  | .share => .share h
  | .setMode => .setMode h
  | .tune => .tune h
  | .rebuild => .rebuild h
  | .readSlot => .readSlot h
  | .getCalendarInfo => .getCalendarInfo h
  | .fetchRecord => .fetchRecord h
  | .ackRecord => .ackRecord h
  | .setHold => .setHold h
  | .claim => .claim h
  | .release => .release h
  | .setConfig => .setConfig h
  | .readConfig => .readConfig h
  | .setQuota => .setQuota h
  | .start => .start h
  | .stop => .stop h
  | .sensorRead => .sensorRead h
  | .sensorWrite => .sensorWrite h
  | .setMap => .setMap h

/-- The happening of a step of a detach (R149). -/
def stepOf (h : HostId) : DetachStep → Instr
  | .requests => .detachFreeRequests h
  | .profiles => .detachProfiles h
  | .records => .detachEmptyRecordQueue h
  | .direct => .detachEndDirectCommand h
  | .claim => .detachFreeClaim h

/-- What a port must do now: an answer or a command whose 20 µs are over (R147), or a step of a detach whose
100 µs are over (R149). -/
def portDue (s : State) (h : HostId) : Option Instr :=
  let p := s.port h
  if p.answers.any (·.left == 0) then some (.commandAnswer h)
  else
    match p.handed.find? (·.left == 0) with
    | some c => some (takingOf h c.code)
    | none =>
      match p.detaching with
      | some d => if d.left = 0 then some (stepOf h d.next) else none
      | none => none

/-- The build under way has reached its bound (R51). -/
def buildDue (s : State) : Option Instr :=
  match s.calendar.builder with
  | .building _ _ left => if left = 0 then some .buildComplete else none
  | _ => none

/-- The link must begin its next transaction (R121). -/
def beginDue (s : State) : Option Instr :=
  match s.link.state with
  | .setup w =>
    if w.left = 0 ∧ w.bus.isNone ∧ !w.writes.isEmpty then some .i2cTransactionBegin else none
  | .direct w => if w.left = 0 ∧ w.bus.isNone then some .i2cTransactionBegin else none
  | _ => none

/-- The claim timer has run out (R162). -/
def claimDue (s : State) : Option Instr :=
  match s.engine.claim with
  | some c => if c.timer = 0 then some .claimExpiry else none
  | none => none

/-- A hold of a host has run out (R136). -/
def holdDue (s : State) (h : HostId) : Option Instr :=
  if (overdueRecord s h).isSome then some (.holdTimeout h) else none

/-- The exposure timer or the slot timer has run out (R66, R77). -/
def timerDue (s : State) : Option Instr :=
  if s.sequencer.exposureTimer = some 0 then some .exposureTimerExpiry
  else if s.sequencer.slotTimer = some 0 then some .slotStart
  else none

/-- The happening of the part itself that is due, if one is. Among several, which the handbook lets fall in
either order, the model takes the first of this list; a waiting command makes any other order
(assumption 4). -/
def dueHappening (s : State) : Option Instr :=
  (allHosts.findSome? (portDue s)).or
    ((buildDue s).or
      ((beginDue s).or
        ((claimDue s).or ((allHosts.findSome? (holdDue s)).or (timerDue s)))))

/-- A transaction on the bus has taken the longest it can (R121): time waits for the sender to say how the
sensor ended it (assumption 4). -/
def busWaits (s : State) : Bool :=
  match s.link.state with
  | .setup w => w.bus.any (·.left == 0)
  | .direct w => w.bus.any (·.left == 0)
  | .draining w => w.bus.left == 0
  | .idle => false

/-- One microsecond less, where time remains. -/
def Transaction.tick (t : Transaction) : Transaction := { t with left := t.left - 1 }

/-- A port one microsecond later. -/
def Port.tick (p : Port) : Port :=
  { p with
    handed := p.handed.map fun c => { c with left := c.left - 1 }
    answers := p.answers.map fun a => { a with left := a.left - 1 }
    detaching := p.detaching.map fun d => { d with left := d.left - 1 } }

/-- The builder one microsecond later. -/
def Builder.tick : Builder → Builder
  | .building snapshot stale left => .building snapshot stale (left - 1)
  | b => b

/-- The link one microsecond later. -/
def LinkState.tick : LinkState → LinkState
  | .idle => .idle
  | .setup w => .setup { w with bus := w.bus.map Transaction.tick, left := w.left - 1 }
  | .direct w => .direct { w with bus := w.bus.map Transaction.tick, left := w.left - 1 }
  | .draining w => .draining { w with bus := w.bus.tick }

/-- The part one microsecond later: the record clock (R129), the timers (R66, R77, R162), the pulse on TRIG,
and the times within which the part's own happenings fall (R51, R121, R147, R149). -/
def tick (s : State) : State :=
  { s with
    ports := ⟨s.ports.h0.tick, s.ports.h1.tick, s.ports.h2.tick, s.ports.h3.tick⟩
    calendar.builder := s.calendar.builder.tick
    sequencer.slotTimer := s.sequencer.slotTimer.map (· - 1)
    sequencer.exposureTimer := s.sequencer.exposureTimer.map (· - 1)
    sequencer.trigger := s.sequencer.trigger - 1
    link.state := s.link.state.tick
    delivery.clock := s.delivery.clock + 1
    engine.claim := s.engine.claim.map fun c => { c with timer := c.timer - 1 } }

end Sys2Proof.Machine
end

