-- ==== Sys2Proof/Machine/Idle.lean ====
section
/-! DEFINITION. What the part does with no command waiting (assumption 4). -/

namespace Sys2Proof.Machine

/-- With no command waiting: nothing while RESET is low (R160); else the part's own happening that is due
falls, or one microsecond passes, save that time waits for the sensor to end a transaction that has taken
the longest it can. -/
def idle (s : State) : Host.Outcome State Fault Refusal :=
  if s.resetHeld then .next s
  else
    match dueHappening s with
    | some i => exec i s
    | none => .next (if busWaits s then s else tick s)

end Sys2Proof.Machine
end

