-- ==== Sys2Proof/Machine/Step.lean ====
section
/-! DEFINITION. The step of the part, and the command a word spells put at the front of the queue. -/

namespace Sys2Proof.Machine

/-- One step: the command at the front of the queue, run with the queue's rest; on an empty queue, the
part's own time. -/
def step (s : State) : Host.Outcome State Fault Refusal :=
  match s.pending with
  | i :: rest => exec i { s with pending := rest }
  | [] => idle s

/-- The state with the command a word spells put at the front of the queue; unchanged where the word spells
none. -/
def State.withFetchWord (s : State) (nbits w : Nat) : State :=
  match Sys2Proof.decodeTableWord nbits w with
  | some i => { s with pending := i :: s.pending }
  | none => s

end Sys2Proof.Machine
end

