-- ==== Sys2Proof/Safety.lean ====
section
/-! DEFINITION. What a sound state of the part is, block by block, in the terms the statements use: the forms
that the handbook says a table, a queue or a timer always has; and the words of the statements about commands
(a command that waits, the state without it, its answer on the way). -/

namespace Sys2Proof.Safety

open Sys2Proof.Machine

/-! ### Commands that wait and answers on their way (R144, R147, R152) -/

/-- The command `cmd` of kind `c` is the oldest of its kind that the port of `h` has handed on, the port is
ATTACHED, and no detach has begun since the hand-on (R144, R152). -/
def Takes (s : State) (h : HostId) (c : CommandCode) (cmd : Handed) : Prop :=
  (s.port h).waitingCommand c = some cmd ∧ (s.port h).attached = true ∧ cmd.stale = false

/-- The state in which the owning block has taken that command off the port's hand-on list, and nothing else
has changed. -/
def taken (s : State) (h : HostId) (c : CommandCode) : State :=
  s.setPort h { s.port h with handed := (s.port h).handed.eraseP fun x => x.code == c }

/-- The state with the answer to a command on its way to the port, and nothing else changed (R147). -/
def answering (h : HostId) (cmd : Handed) (status : Status) (results : List Byte) (s : State) : State :=
  s.setPort h
    { s.port h with
      answers := (s.port h).answers ++
        [{ serial := cmd.serial, response := { status := status, results := results },
           left := cmd.left }] }

/-! ### Host Ports -/

/-- The form of a notice queue (R154): at most 16 entries, NOTICE_LOST only as the newest one, and a queue of 16
ends with it. -/
def NoticesOk (queue : List Notice) : Prop :=
  queue.length ≤ 16 ∧ (∀ n ∈ queue.dropLast, n.kind ≠ .noticeLost) ∧
    (queue.length = 16 → ∀ n ∈ queue.getLast?, n.kind = .noticeLost)

/-- Every notice queue has the form of R154. -/
def NoticeQueuesOk (s : State) : Prop := ∀ h, NoticesOk (s.port h).notices

/-- The serial number of a direct command at the Sensor Link, on the bus or between attempts, that came from a
port. -/
def linkSerials (s : State) (h : HostId) : List Nat :=
  (match s.link.state with
    | .direct w => if w.command.port = h then [w.command.serial] else []
    | _ => []) ++
  (match s.link.waiting with
    | some (.direct c) => if c.port = h then [c.serial] else []
    | _ => [])

/-- The serial number of a STOP of a port that waits for the frame in flight. -/
def stopSerials (s : State) (h : HostId) : List Nat :=
  match s.engine.stopWaiting with
  | some (g, n) => if g = h then [n] else []
  | none => []

/-- The serial numbers of a port whose answer is still to come or on its way. -/
def openSerials (s : State) (h : HostId) : List Nat :=
  (s.port h).handed.map (·.serial) ++ (s.port h).answers.map (·.serial) ++ linkSerials s h
    ++ stopSerials s h

/-- The bookkeeping of a port (R144, R145, R147 to R152). The serial numbers are the model's own names of
commands (assumption 10). -/
structure PortOk (s : State) (h : HostId) : Prop where
  /-- No serial number stands twice, and none is from the future. -/
  distinct : (openSerials s h).Nodup
  numbered : ∀ n ∈ openSerials s h, n < (s.port h).nextSerial
  /-- A command that no detach has overtaken is the one the buffer waits for. -/
  awaited : ∀ c ∈ (s.port h).handed, c.stale = false → (s.port h).buffer = .pending c.serial
  /-- A port whose detach is under way is DETACHED. -/
  attachedOrDetaching : (s.port h).attached = true → (s.port h).detaching = none
  /-- While a detach is under way every command handed on has been overtaken, and the buffer is PENDING for
  the detach, or for the DETACH that began it, which has no other answer on its way. -/
  overtaken : (s.port h).detaching.isSome = true → ∀ c ∈ (s.port h).handed, c.stale = true
  held : (s.port h).detaching.isSome = true →
    (s.port h).buffer = .pendingDetach ∨
      ∃ n, (s.port h).buffer = .pending n ∧ n < (s.port h).nextSerial ∧ n ∉ openSerials s h
  /-- A DETACHED port has no notice and an attention mask of 0. -/
  quiet : (s.port h).attached = false → (s.port h).notices = [] ∧ (s.port h).mask = 0

/-- Every port's bookkeeping is sound. -/
def PortsOk (s : State) : Prop := ∀ h, PortOk s h

/-! ### Request Manager -/

/-- The ranges of Table 1-1; a live BURST has not reached its count (R1, R4). -/
structure RequestOk (r : Request) : Prop where
  tag : 1 ≤ r.tag ∧ r.tag ≤ 255
  period : isPeriod r.period = true
  phase : r.preferredPhase ≤ 63
  priority : r.priority ≤ 3
  missLimit : r.missLimit ≤ 15
  misses : r.misses ≤ 255
  burst : ∀ count done, r.kind = .burst count done → 1 ≤ count ∧ count ≤ 65535 ∧ done < count

/-- The request table (R1, R2): at most 32 live requests, no two with the same owner and tag, no two with the
same admission sequence, every field in its range. -/
structure RequestsOk (s : State) : Prop where
  size : s.requests.table.length ≤ 32
  named : s.requests.table.Pairwise fun a b => ¬(a.owner = b.owner ∧ a.tag = b.tag)
  admitted : s.requests.table.Pairwise fun a b => a.sequence ≠ b.sequence
  fields : ∀ r ∈ s.requests.table, RequestOk r

/-! ### Profile Manager and Exposure Control -/

/-- A profile in TUNING has an ACTIVE request (R87). -/
def TunesInUse (s : State) : Prop :=
  ∀ id p loop, s.profile id = some p → p.mode = .tuning loop → s.hasActiveUser id = true

/-- The number of live requests that name a profile. -/
def naming (s : State) (id : Fin 16) : Nat := s.requests.table.countP fun r => r.profile == id

/-- A profile and the requests that name it (R8, R23, R26, R27, R37, R39). -/
structure ProfileOk (s : State) (id : Fin 16) (p : Profile) : Prop where
  counted : p.references = naming s id
  steps : 1 ≤ p.steps.length ∧ p.steps.length ≤ 4
  periods : ∀ r ∈ s.requests.table, r.profile = id → p.steps.length ≤ r.period
  ownerAlone : p.sharing = .ownerOnly →
    ∃ o, p.life = .live o ∧ ∀ r ∈ s.requests.table, r.profile = id → r.owner = o
  orphan : p.life = .orphaned → p.mode = .manual ∧ p.references ≠ 0

/-- Every profile is sound, and no live request names a free entry. -/
def ProfilesOk (s : State) : Prop :=
  ∀ id,
    match s.profile id with
    | some p => ProfileOk s id p
    | none => naming s id = 0

/-! ### Calendar -/

/-- A cycle length (R46). -/
def CycleLength (n : Nat) : Prop := n ∈ [1, 2, 4, 8, 16, 32, 64]

/-- The slots of a calendar (R42, R46): as many as a cycle length, no assigned one without subscribers. -/
def SlotsOk (slots : List Slot) : Prop :=
  CycleLength slots.length ∧ ∀ profile step, Slot.assigned profile step [] ∉ slots

/-- The Calendar and the periods it is built from (R42, R46, R47). -/
structure CalendarOk (s : State) : Prop where
  active : SlotsOk s.calendar.active
  shadow : ∀ sh, s.calendar.builder = .ready sh → SlotsOk sh.slots
  snapshot : ∀ snap stale left, s.calendar.builder = .building snap stale left →
    ∀ c ∈ snap, isPeriod c.period = true
  periods : ∀ r ∈ s.requests.table, isPeriod r.period = true

/-! ### Engine Control, the Frame Sequencer and Frame Pass -/

/-- Slots run: the engine is RUNNING or STOPPING (R66, R167). -/
def runs (s : State) : Prop := s.engine.state = .running ∨ s.engine.state = .stopping

/-- The engine, its timers, its two places and Frame Pass agree (R66, R67, R70, R77, R81, R84, R85, R103, R110,
R167, R169). -/
structure EngineOk (s : State) : Prop where
  timer : s.sequencer.slotTimer.isSome = true ↔ runs s
  still : ¬ runs s → s.sequencer.next = none ∧ s.sequencer.present = none ∧ s.sequencer.position = .absent
  stopping : s.engine.state = .stopping → s.sequencer.next = none ∧ s.sequencer.present.isSome = true
  stopWaits : s.engine.stopWaiting.isSome = true ↔ s.engine.state = .stopping
  fault : s.engine.fault ≠ .none ↔ s.engine.state = .halted
  exposure : s.sequencer.exposureTimer.isSome = true →
    ∃ f, s.sequencer.present = some f ∧ f.state = .exposing
  pass : s.framePass ≠ .idle ↔ ∃ f, s.sequencer.present = some f ∧ f.state = .readout
  output : s.videoOut.frameValid = true ↔ s.framePass ≠ .idle
  failures : s.sequencer.linkFailures ≤ 3 ∧ s.sequencer.stallFailures ≤ 3

/-- The claim is held by a host that is attached or whose detach is under way (R161). -/
def ClaimOk (s : State) : Prop :=
  ∀ c, s.engine.claim = some c →
    (s.port c.holder).attached = true ∨ (s.port c.holder).detaching.isSome = true

/-- The quotas of all hosts together stay within the tables, and no host holds more live requests or LIVE
profiles than its quotas allow (R8, R23, R29, R166). -/
structure QuotasOk (s : State) : Prop where
  requests : (allHosts.map fun h => (s.engine.quotas.get h).requests).sum ≤ 32
  profiles : (allHosts.map fun h => (s.engine.quotas.get h).profiles).sum ≤ 16
  live : ∀ h, (s.requestsOf h).length ≤ (s.engine.quotas.get h).requests
  owned : ∀ h, (allProfileIds.filter fun id => (s.profile id).any fun p => p.life == .live h).length ≤
    (s.engine.quotas.get h).profiles

/-! ### Delivery -/

/-- A queued record (R128, R132): at least one served tag, statistics exactly when the outcome is normal, a lost
count of 1 to 255 where there is one. -/
structure RecordOk (r : Record) : Prop where
  served : r.tags ≠ []
  statistics : r.statistics.isSome = true ↔ r.outcome = .normal
  lost : ∀ n, r.lost = some n → 1 ≤ n ∧ n ≤ 255

/-- The record queues (R128, R130). -/
def RecordQueuesOk (s : State) : Prop :=
  ∀ h, (s.mailbox h).queue.length ≤ 8 ∧ (s.mailbox h).pendingLoss ≤ 255 ∧
    ∀ r ∈ (s.mailbox h).queue, RecordOk r

/-- Frame number a is higher than b, through the wrap of the counter, 0 standing for none (R130). -/
def Above (a b : BitVec 32) : Prop :=
  a ≠ 0 ∧ (b = 0 ∨ (1 ≤ (a - b).toNat ∧ (a - b).toNat ≤ 2147483647))

/-- The records that host h has queued. -/
def queued (s : State) (h : HostId) : List Record := (s.mailbox h).queue

/-- The order of the record queues (R71, R130): each in strictly increasing frame-number order, no record newer
than the counter, and every one older than the frame in flight, which has the number the counter holds. -/
structure RecordOrderOk (s : State) : Prop where
  increasing : ∀ h, (queued s h).Pairwise fun a b => Above b.frameNumber a.frameNumber
  numbered : ∀ h, ∀ r ∈ queued s h, r.frameNumber ≠ 0 ∧
    (r.frameNumber = s.sequencer.frameNumber ∨ Above s.sequencer.frameNumber r.frameNumber)
  inFlight : ∀ f, s.sequencer.present = some f →
    f.context.frameNumber = some s.sequencer.frameNumber ∧ s.sequencer.frameNumber ≠ 0 ∧
      ∀ h, ∀ r ∈ queued s h, Above s.sequencer.frameNumber r.frameNumber

/-- No queued record lies 2,147,483,646 numbers or more behind the counter. Beyond that the order of R130, which
compares through the wrap, would call the older of two numbers the higher one. -/
def RecordsRecent (s : State) : Prop :=
  ∀ h, ∀ r ∈ queued s h, (s.sequencer.frameNumber - r.frameNumber).toNat < 2147483646

/-! ### What a detach takes away (R149) -/

/-- No live request, no LIVE profile, and nothing in Delivery but what a reset leaves. -/
def noRequest (s : State) (h : HostId) : Prop := s.requestsOf h = []
def noProfile (s : State) (h : HostId) : Prop := ∀ id p, s.profile id = some p → p.life ≠ .live h
def noRecord (s : State) (h : HostId) : Prop := s.mailbox h = Mailbox.atReset
def noClaim (s : State) (h : HostId) : Prop := s.holdsClaim h = false

/-- A DETACHED host holds nothing that a step of its detach has already taken away: after the last step, no
request, no profile, no queued record and no claim (R149). -/
def HoldingsOk (s : State) (h : HostId) : Prop :=
  (s.port h).attached = false →
    match (s.port h).detaching with
    | none => noRequest s h ∧ noProfile s h ∧ noRecord s h ∧ noClaim s h
    | some d =>
      match d.next with
      | .requests => True
      | .profiles => noRequest s h
      | .records => noRequest s h ∧ noProfile s h
      | .direct => noRequest s h ∧ noProfile s h ∧ noRecord s h
      | .claim => noRequest s h ∧ noProfile s h ∧ noRecord s h

/-- A sound part, as far as detach and the tables are concerned. -/
structure TablesOk (s : State) : Prop where
  ports : PortsOk s
  requests : RequestsOk s
  profiles : ProfilesOk s
  holdings : ∀ h, HoldingsOk s h

/-! ### The words of the statements about the calendar, a close and a detach -/

/-- A slot entry without the pairs that satisfy a test; left empty, it becomes idle (R56, R59). -/
def dropPairs (gone : Subscriber → Bool) : Slot → Slot
  | .idle => .idle
  | .assigned profile step subscribers =>
    if (subscribers.filter fun p => !gone p) = [] then .idle
    else .assigned profile step (subscribers.filter fun p => !gone p)

/-- A port after a notice posted to it (R155). -/
def posted (n : Notice) (p : Port) : Port :=
  if p.attached then { p with notices := joinNotice p.notices n } else p

/-- The four ports after a notice posted to every attached host (R155). -/
def postedToAll (n : Notice) (s : State) : PerHost Port :=
  ⟨posted n s.ports.h0, posted n s.ports.h1, posted n s.ports.h2, posted n s.ports.h3⟩

/-! ### Requests that leave, and the tunes they end (R5, R100) -/

/-- The notice of the tune that the leaving of request r ends, `gone` being the requests that have left, r among
them: r was ACTIVE, its profile is in TUNING, and each of the profile's ACTIVE requests in `s`, the state before
the first left, has gone. It goes to the owner, with the tune frames reached (R100). -/
def tuneEnded (s : State) (gone : List Request) (r : Request) : List (HostId × Notice) :=
  match s.profile r.profile with
  | none => []
  | some p =>
    match p.mode, p.life with
    | .tuning loop, .live owner =>
      if r.isActive = true ∧
          ∀ q ∈ s.requests.table, q.profile = r.profile → q.isActive = true → q ∈ gone then
        [(owner, { kind := .tuneAborted, subject := r.profile.val, detail := loop.tuneFrames })]
      else []
    | _, _ => []

/-- The notices of requests that leave one after another, each with its own first and then that of the tune it
ends; `gone` have left before them. -/
def leavingNotices (s : State) (own : Request → List (HostId × Notice)) :
    List Request → List Request → List (HostId × Notice)
  | _, [] => []
  | gone, r :: rest =>
    own r ++ tuneEnded s (r :: gone) r ++ leavingNotices s own (r :: gone) rest

/-- The mode of a profile after requests have left, `table` being the request table without them: a tune that has
lost its last ACTIVE user ends in MANUAL (R100). -/
def modeLeft (table leavers : List Request) (id : Fin 16) (mode : Mode) : Mode :=
  match mode with
  | .tuning loop =>
    if (∃ r ∈ leavers, r.profile = id ∧ r.isActive = true) ∧
        ∀ q ∈ table, q.profile = id → q.isActive = false then .manual
    else .tuning loop
  | m => m

/-- The four ports after notices posted one after another (R155). -/
def told (notices : List (HostId × Notice)) (s : State) : PerHost Port :=
  (notices.foldl (fun t n => postNotice n.1 n.2 t) s).ports

/-- What a trigger makes of a builder, the candidates being those of a state (R47, R52). -/
def triggered (b : Builder) (s : State) : Builder :=
  match b with
  | .building snap _ left => .building snap true left
  | _ => .building (snapshot s) false (200 + 40 * (snapshot s).length)

/-- The bytes of a transaction in which the host clocks `count` bytes after the direction byte: the answer, then
00h (R141, R143). -/
def clocked (answer : List Byte) (count : Nat) : List Byte :=
  answer.take count ++ List.replicate (count - answer.length) 0

/-- A frame in flight or to come that Frame Pass or Delivery still acts on: the request of a pair is live. -/
def isLive (s : State) (p : Subscriber) : Bool := (s.request p.host p.tag).isSome

/-- The candidate as R50 needs it: a period of Table 1-1, 1 to 4 steps that fit in it, and a current phase from
0 to P − k where it is ACTIVE (R45, R49). -/
structure CandidateOk (c : Candidate) : Prop where
  period : isPeriod c.period = true
  steps : 1 ≤ c.stepCount ∧ c.stepCount ≤ c.period
  phase : ∀ p, c.state = .active p → p + c.stepCount ≤ c.period

end Sys2Proof.Safety
end

