-- ==== Sys2Proof/Certificates/Slice0/Obligations.lean ====
section
/-! DEFINITION. The statements for the provers. Each says what a command, a happening or a table of the part
does, by the rule of the handbook that its docstring names; a convention of the model's own is named with its
log entry. -/

section Statements

open Sys2Proof Sys2Proof.Machine Sys2Proof.Safety

/-! ### The block: its queue, its steps, power-on -/

/-- A step takes the command at the front of the queue and runs it with the queue's rest (log entry 1). -/
def Obligations.StepRunsTheCommandAtTheFront : Prop :=
  ∀ (c : Instr) (rest : List Instr) (s : State), s.pending = c :: rest →
    step s = exec c { s with pending := rest }

/-- Every command completes in every state, and none reads or changes the queue of the commands that wait (log
entries 1 and 3; 0.5: each happening is told whole). -/
def Obligations.EveryCommandCompletesAndLeavesTheQueue : Prop :=
  ∀ (c : Instr) (s : State), ∃ t, exec c s = .next t ∧ t.pending = s.pending ∧
    ∀ q : List Instr, exec c { s with pending := q } = .next { t with pending := q }

/-- The model's choice of log entry 4: on an empty queue nothing happens while RESET is low; else the part's own
happening that is due falls; else one microsecond passes, save that time waits for the sensor to end a
transaction that has taken its longest time. A microsecond counts the record clock up (R129) and every running
timer down (R66, R77, R162). -/
def Obligations.TimePassesOnAnEmptyQueue : Prop :=
  ∀ s : State, s.pending = [] →
    (s.resetHeld = true → step s = .next s) ∧
    (s.resetHeld = false →
      (∀ i, dueHappening s = some i → step s = exec i s) ∧
      (dueHappening s = none → busWaits s = true → step s = .next s) ∧
      (dueHappening s = none → busWaits s = false → ∃ t, step s = .next t ∧
        t.delivery.clock = s.delivery.clock + 1 ∧ t.delivery.boxes = s.delivery.boxes ∧
        t.sequencer.slotTimer = s.sequencer.slotTimer.map (· - 1) ∧
        t.sequencer.exposureTimer = s.sequencer.exposureTimer.map (· - 1) ∧
        t.engine.claim = s.engine.claim.map (fun c => { c with timer := c.timer - 1 }) ∧
        t.requests = s.requests ∧ t.profiles = s.profiles ∧ t.calendar.active = s.calendar.active ∧
        t.calendar.generation = s.calendar.generation ∧ t.sequencer.next = s.sequencer.next ∧
        t.sequencer.present = s.sequencer.present ∧ t.framePass = s.framePass ∧
        t.videoOut = s.videoOut ∧ t.link.shadow = s.link.shadow ∧ t.engine.state = s.engine.state ∧
        ∀ h, (t.port h).buffer = (s.port h).buffer ∧ (t.port h).notices = (s.port h).notices))

/-- The values the handbook gives for power-on (R2, R3, R24, R44, R66, R67, R70, R71, R81, R86, R103, R114, R115,
R118, R119, R129, R140, R160, R161, R164, R166, R167). POWER_ON puts every block into that state, whatever was
under way, and holds it while RESET is low; RESET_RELEASE ends that and changes nothing else (R160; the queue and
the free-value counter are the model's, log entries 1, 2 and 9). -/
def Obligations.PowerOnPutsEveryBlockInItsState : Prop :=
  (let s := State.reset
  (∀ h, (s.port h).attached = false ∧ (s.port h).buffer = .empty ∧ (s.port h).discarded = false ∧
    (s.port h).notices = [] ∧ (s.port h).mask = 0 ∧ atn s h = false ∧ s.mailbox h =
      { queue := [], pendingLoss := 0, lastDiscarded := 0, holdLimit := 0 } ∧
    s.engine.quotas.get h = { requests := 8, profiles := 4 }) ∧
  s.requests.table = [] ∧ s.requests.counter = 0 ∧ (∀ id, s.profile id = none) ∧
  s.calendar.active = [.idle] ∧ s.calendar.generation = 0 ∧ s.calendar.builder = .idle ∧
  s.sequencer.slotTimer = none ∧ s.sequencer.exposureTimer = none ∧ s.sequencer.position = .absent ∧
  s.sequencer.next = none ∧ s.sequencer.present = none ∧ s.sequencer.frameNumber = 0 ∧
  s.sequencer.linkFailures = 0 ∧ s.sequencer.stallFailures = 0 ∧ trig s = false ∧
  s.framePass = .idle ∧ s.videoOut.frameValid = false ∧
  s.link.description =
    { address := 0x36, width := 1280, height := 960, readout := 16000, lineTime := 16700 } ∧
  (∀ k, s.link.map.get k = { register := 0x0000, count := 0 } ∧ s.link.shadow.get k = none) ∧
  s.link.state = .idle ∧ s.link.waiting = none ∧ s.delivery.clock = 0 ∧
  s.engine.state = .stopped ∧ s.engine.fault = .none ∧ s.engine.claim = none ∧
  s.engine.slotPeriod = 33333 ∧ s.engine.claimExpiry = 5000) ∧
  (∀ s : State,
    exec .powerOn s =
      .next { State.reset with pending := s.pending, freeIndex := s.freeIndex, resetHeld := true } ∧
    exec .resetRelease s = .next { s with resetHeld := false })

/-! ### Host Ports -/

/-- A frame of Table 9-1 and no other is read as a command with its arguments: reading what a host sends gives it
back, and nothing else is read as it (R143, R144). -/
def Obligations.CommandFramesDecodeToWhatWasSent : Prop :=
  (∀ (c : CommandCode) (args : List Byte), args.length ≤ 32 →
    decodeFrame (encodeFrame c args) = .ok (c, args)) ∧
  ∀ (frame : List Byte) (c : CommandCode) (args : List Byte), decodeFrame frame = .ok (c, args) →
    frame = encodeFrame c args ∧ args.length ≤ 32

/-- A command transaction: at the end of its direction byte the port shifts out the status byte sampled at the fall
of select, and 00h for each byte after it. At the rise of select, with the buffer PENDING it is discarded whole
and DISCARDED is set, on a DETACHED port too (the model's choice between R142 and R145: log entry 24); else the
buffer goes to PENDING for it and the port makes its three checks in order, answering or handing on, and the
hand-on restarts the holder's claim timer (R141, R144, R145, R162). The serial number and the 20 µs written
beside a command are the model's bookkeeping (log entries 4 and 10). -/
def Obligations.CommandTransactionIsDiscardedAnsweredOrHandedOn : Prop :=
  ∀ (h : HostId) (s : State),
    let p := s.port h
    (∀ status, p.select = some (.opened status) →
      exec (.commandTransaction h .direction) s =
        .next
          (s.setPort h
            { p with select := some (.command []), shiftedOut := p.shiftedOut ++ [status] })) ∧
    (∀ frame received, p.select = some (.command frame) →
      exec (.commandTransaction h (.bytes received)) s =
        .next
          (s.setPort h
            { p with
              select := some (.command (frame ++ received))
              shiftedOut := p.shiftedOut ++ received.map fun _ => 0x00 })) ∧
    (∀ frame, p.select = some (.command frame) →
      let q : Port := { p with select := none }
      let s1 := s.setPort h
        { q with buffer := .pending p.nextSerial, nextSerial := p.nextSerial + 1 }
      let refused := fun status =>
        s1.setPort h
          { s1.port h with
            answers := p.answers ++
              [{ serial := p.nextSerial, response := { status := status, results := [] }, left := 20 }] }
      let handed := fun c args =>
        s1.setPort h
          { s1.port h with
            handed := p.handed ++
              [{ serial := p.nextSerial, code := c, args := args, stale := false, left := 20 }] }
      (p.buffer.isPending = true →
        exec (.commandTransaction h .rises) s = .next (s.setPort h { q with discarded := true })) ∧
      (p.buffer.isPending = false →
        ((∀ code n args, frame = code :: n :: args → n.toNat ≤ 32 → args.length ≠ n.toNat) →
          exec (.commandTransaction h .rises) s = .next (refused .badLength)) ∧
        ∀ code n args, frame = code :: n :: args → n.toNat ≤ 32 → args.length = n.toNat →
          ((∀ c : CommandCode, c.toByte ≠ code) →
            exec (.commandTransaction h .rises) s = .next (refused .unknownCommand)) ∧
          ∀ c : CommandCode, c.toByte = code →
            (p.attached = false ∧ c ≠ .attach ∧ c ≠ .getStatus →
              exec (.commandTransaction h .rises) s = .next (refused .notAttached)) ∧
            (p.attached = true ∨ c = .attach ∨ c = .getStatus →
              exec (.commandTransaction h .rises) s =
                .next
                  { handed c args with
                    engine :=
                      { s.engine with
                        claim :=
                          if s.holdsClaim h then
                            some { holder := h, timer := s.engine.claimExpiry * 1000 }
                          else s.engine.claim } })))

/-- A response read is answered at the end of its direction byte from the state of the buffer then: READY, the buffer
is emptied and DISCARDED cleared, and nothing else changes; the bytes of the frame are shifted out behind the
status byte, and 00h beyond it (R141, R143, R146). A status poll shifts out the status byte and 00h, and changes
nothing else (R141). Whatever the transaction turns out to be: at the fall of select the port samples its status
byte, or, with RESET or HRST low, ignores the transaction to its end and shifts nothing out for it; an abandoned
one shifts out 00h; and one abandoned, ignored, or ended before its direction byte is complete changes nothing at
the rise of select (R141, R142, R151, R160). The model's choices here: that nothing is shifted out for a transaction
whose select falls with RESET low, and that an abandoned one shifts out 00h from its next byte on, the direction
byte included (log entry 5); and that with HRST high the port samples its status byte though the detach of the
pulse has not ended (log entry 16). An answer makes the buffer READY if the buffer is PENDING for the
command it answers, and is dropped in any other state of the buffer (R147). The answer that arrives is the oldest
on its way (log entry 10). -/
def Obligations.TransactionsFollowTheResponseBuffer : Prop :=
  (∀ (h : HostId) (s : State),
    let p := s.port h
    (∀ status, p.select = some (.opened status) →
      let answered := fun (q : Port) (frame : List Byte) =>
        s.setPort h
          { q with select := some (.response frame), shiftedOut := p.shiftedOut ++ [status] }
      (p.buffer = .empty →
        exec (.responseRead h .direction) s = .next (answered p [0x03, 0x00])) ∧
      (∀ n, p.buffer = .pending n ∨ p.buffer = .pendingDetach →
        exec (.responseRead h .direction) s = .next (answered p [0x02, 0x00])) ∧
      (∀ r, p.buffer = .ready r →
        exec (.responseRead h .direction) s =
          .next
            (answered { p with buffer := .empty, discarded := false }
              (r.status.toByte :: BitVec.ofNat 8 r.results.length :: r.results))) ∧
      (∀ direction : Byte, direction ≠ 0x01 → direction ≠ 0x02 →
        exec (.statusPoll h direction .direction) s =
          .next
            (s.setPort h { p with select := some .poll, shiftedOut := p.shiftedOut ++ [status] }))) ∧
    (∀ frame, p.select = some (.response frame) →
      (∀ received,
        exec (.responseRead h (.bytes received)) s =
          .next
            (s.setPort h
              { p with
                select := some (.response (frame.drop received.length))
                shiftedOut := p.shiftedOut ++ clocked frame received.length })) ∧
      exec (.responseRead h .rises) s = .next (s.setPort h { p with select := none })) ∧
    (p.select = some .poll → ∀ direction : Byte,
      (∀ received,
        exec (.statusPoll h direction (.bytes received)) s =
          .next
            (s.setPort h { p with shiftedOut := p.shiftedOut ++ received.map fun _ => 0x00 })) ∧
      exec (.statusPoll h direction .rises) s = .next (s.setPort h { p with select := none }))) ∧
  (∀ (h : HostId) (row : Moment → Instr) (s : State),
    row = .commandTransaction h ∨ row = .responseRead h ∨ (∃ d, row = .statusPoll h d) →
    let p := s.port h
    let low := s.resetHeld = true ∨ p.hrstLow = true
    let ended : Host.Outcome State Fault Refusal := .next (s.setPort h { p with select := none })
    (p.select = none →
      (¬low →
        exec (row .falls) s =
          .next (s.setPort h { p with select := some (.opened (statusByte s h)), shiftedOut := [] })) ∧
      (low →
        exec (row .falls) s =
          .next (s.setPort h { p with select := some .ignored, shiftedOut := [] }))) ∧
    (p.select = some .ignored →
      exec (row .direction) s = .next s ∧ (∀ received, exec (row (.bytes received)) s = .next s) ∧
      exec (row .rises) s = ended) ∧
    (p.select = some .abandoned →
      exec (row .direction) s =
        .next (s.setPort h { p with shiftedOut := p.shiftedOut ++ [0x00] }) ∧
      (∀ received,
        exec (row (.bytes received)) s =
          .next
            (s.setPort h { p with shiftedOut := p.shiftedOut ++ received.map fun _ => 0x00 })) ∧
      exec (row .rises) s = ended) ∧
    (∀ status, p.select = some (.opened status) → exec (row .rises) s = ended)) ∧
  (∀ (h : HostId) (a : AnswerInTransit) (rest : List AnswerInTransit) (s : State),
    (s.port h).answers = a :: rest →
      ((s.port h).buffer = .pending a.serial →
        exec (.commandAnswer h) s =
          .next (s.setPort h { s.port h with answers := rest, buffer := .ready a.response })) ∧
      ((s.port h).buffer ≠ .pending a.serial →
        exec (.commandAnswer h) s = .next (s.setPort h { s.port h with answers := rest })))

/-- The eight bits of the port status byte (R142). ATN is active exactly while an enabled condition holds (R158; at
once, log entry 15). -/
def Obligations.StatusByteAndAttentionLineShowThePort : Prop :=
  (∀ (s : State) (h : HostId),
    let b := statusByte s h
    (b.getLsbD 0 = true ↔ ∃ r, (s.port h).buffer = .ready r) ∧
    (b.getLsbD 1 = true ↔ (∃ n, (s.port h).buffer = .pending n) ∨ (s.port h).buffer = .pendingDetach) ∧
    (b.getLsbD 2 = true ↔ (s.port h).notices ≠ []) ∧
    (b.getLsbD 3 = true ↔ (s.mailbox h).queue ≠ []) ∧
    (b.getLsbD 4 = true ↔ (s.port h).discarded = true) ∧
    (b.getLsbD 5 = true ↔ (s.port h).attached = true) ∧
    (b.getLsbD 6 = true ↔ ∃ c, s.engine.claim = some c ∧ c.holder = h) ∧
    (b.getLsbD 7 = true ↔ s.engine.state = .halted) ∧
    ¬(b.getLsbD 0 = true ∧ b.getLsbD 1 = true)) ∧
  (∀ (s : State) (h : HostId),
    atn s h = true ↔
      ((s.port h).mask.testBit 0 = true ∧ (s.port h).notices ≠ []) ∨
      ((s.port h).mask.testBit 1 = true ∧ (s.mailbox h).queue ≠ []) ∨
      ((s.port h).mask.testBit 2 = true ∧ ∃ r, (s.port h).buffer = .ready r))

/-- ATTACH on a DETACHED port: ATTACHED, mask 3, hold limit 0, the answer the port number, and nothing else; with an
argument it is refused RANGE, on an ATTACHED port STATE (R148). -/
def Obligations.AttachMakesThePortAttached : Prop :=
  ∀ (h : HostId) (cmd : Handed) (s : State),
    (s.port h).waitingCommand .attach = some cmd → cmd.stale = false →
      let s1 := taken s h .attach
      (cmd.args = [] → (s.port h).attached = false →
        exec (.attach h) s =
          .next
            (answering h cmd .ok [BitVec.ofNat 8 h.number]
              ((s1.setPort h { s1.port h with attached := true, mask := 3 }).setMailbox h
                { s.mailbox h with holdLimit := 0 }))) ∧
      (cmd.args ≠ [] → exec (.attach h) s = .next (answering h cmd .range [] s1)) ∧
      (cmd.args = [] → (s.port h).attached = true →
        exec (.attach h) s = .next (answering h cmd .state [] s1))

/-- The first step of a detach, begun by DETACH, whose answer waits, or by an HRST pulse on an ATTACHED or a DETACHED
port: DETACHED, no notices, mask 0, DISCARDED clear, the buffer PENDING. A pulse abandons the transaction under
way, unless it is ignored already; while a detach is under way it begins no second one, and drops the answer of a
DETACH that began it. HRST_RELEASE lets transactions in again and changes nothing else (R149 step 1, R150, R151;
the serial number and the 100 µs are log entries 4 and 10). -/
def Obligations.DetachBegins : Prop :=
  ∀ (h : HostId) (s : State),
    let p := s.port h
    let abandoned : Option Transfer :=
      match p.select with
      | none => none
      | some .ignored => some .ignored
      | some _ => some .abandoned
    (∀ cmd, Takes s h .detach cmd → cmd.args = [] →
      exec (.detach h) s =
        .next
          (s.setPort h
            { p with
              attached := false, notices := [], mask := 0, discarded := false
              handed := (p.handed.eraseP fun x => x.code == .detach).map fun c =>
                { c with stale := true }
              detaching := some { next := .requests, answers := some cmd.serial, left := 100 } })) ∧
    (s.resetHeld = false → p.hrstLow = false → p.detaching = none →
      exec (.hrstPulse h) s =
        .next
          (s.setPort h
            { p with
              hrstLow := true, select := abandoned
              attached := false, notices := [], mask := 0, discarded := false
              buffer := .pendingDetach
              handed := p.handed.map fun c => { c with stale := true }
              detaching := some { next := .requests, answers := none, left := 100 } })) ∧
    (∀ d, s.resetHeld = false → p.hrstLow = false → p.detaching = some d →
      exec (.hrstPulse h) s =
        .next
          (s.setPort h
            { p with
              hrstLow := true, select := abandoned
              detaching := some { d with answers := none } })) ∧
    exec (.hrstRelease h) s = .next (s.setPort h { p with hrstLow := false })

/-- Step 2 of a detach: the host's requests are freed and no other; their pairs leave the active calendar; the
reference counts fall, ORPHANED profiles that reach 0 are freed, tunes without an ACTIVE user end; one trigger if
a freed request was ACTIVE and a request is WAITING. The only notices are those of the tunes that end: as the
requests are freed in ascending tag order, TUNE_ABORTED with the tune frames reached to the owner of each, other
than the detached host (R22, R27, R59, R61, R100, R149). Stated for tables in the form of R1, R27 and R42. -/
def Obligations.DetachFreesTheHostsRequests : Prop :=
  ∀ (h : HostId) (d : Detach) (order : List Request) (s : State),
    RequestsOk s → ProfilesOk s → CalendarOk s →
    (s.port h).attached = false → (s.port h).detaching = some d → d.next = .requests →
    order.Perm (s.requests.table.filter fun r => r.owner == h) →
    order.Pairwise (fun a b => a.tag < b.tag) →
      let mine := s.requests.table.filter fun r => r.owner == h
      let wasActive := mine.any fun r => r.isActive
      ∃ t, exec (.detachFreeRequests h) s = .next t ∧
        t.requests =
          { table := s.requests.table.filter fun r => r.owner != h, counter := s.requests.counter } ∧
        t.calendar.active =
          s.calendar.active.map
            (dropPairs fun p => mine.any fun r => r.named p.host p.tag && r.isActive) ∧
        t.calendar.generation = s.calendar.generation ∧
        t.calendar.builder =
          (if wasActive ∧ t.requests.table.any (fun r => r.state == .waiting) then
            triggered s.calendar.builder t
          else s.calendar.builder) ∧
        (∀ id p, s.profile id = some p →
          let n := mine.countP fun r => r.profile == id
          t.profile id =
            if p.life = .orphaned ∧ p.references = n then none
            else
              some
                { p with
                  references := p.references - n
                  mode := modeLeft t.requests.table mine id p.mode }) ∧
        (∀ id, s.profile id = none → t.profile id = none) ∧
        t.ports =
          told (leavingNotices s (fun _ => []) [] order)
            (s.setPort h { s.port h with detaching := some { d with next := .profiles } }) ∧
        t.port h = { s.port h with detaching := some { d with next := .profiles } } ∧
        (∀ g, g ≠ h → { t.port g with notices := (s.port g).notices } = s.port g) ∧
        (∀ g, g ≠ h →
          (∀ id p loop, s.profile id = some p → p.life = .live g → p.mode ≠ .tuning loop) →
          t.port g = s.port g) ∧
        t.sequencer = s.sequencer ∧ t.framePass = s.framePass ∧ t.videoOut = s.videoOut ∧
        t.link = s.link ∧ t.delivery = s.delivery ∧ t.engine = s.engine

/-- Step 3 of a detach: each LIVE profile of the host becomes ORPHANED in MANUAL if it is SHARED and referenced and
is freed otherwise, and every other profile is untouched; PROFILE_ORPHANED goes, in ascending id, once to each
attached host with a live request on it (R38, R149). -/
def Obligations.DetachOrphansOrFreesTheHostsProfiles : Prop :=
  ∀ (h : HostId) (d : Detach) (s : State), (s.port h).detaching = some d → d.next = .profiles →
    let s1 := s.setPort h { s.port h with detaching := some { d with next := .records } }
    let orphaned := fun id : Fin 16 =>
      match s.profile id with
      | some p => p.life == .live h && p.sharing == .shared && p.references != 0
      | none => false
    ∃ t, exec (.detachProfiles h) s = .next t ∧
      (∀ id, t.profile id =
        match s.profile id with
        | none => none
        | some p =>
          if p.life ≠ .live h then some p
          else if orphaned id then some { p with life := .orphaned, mode := .manual }
          else none) ∧
      (∀ g, t.port g =
        { s1.port g with
          notices :=
            if (s1.port g).attached then
              (allProfileIds.filter fun id =>
                orphaned id && s.requests.table.any fun r => r.owner == g && r.profile == id).foldl
                (fun q id =>
                  joinNotice q { kind := .profileOrphaned, subject := id.val, detail := h.number })
                (s1.port g).notices
            else (s1.port g).notices }) ∧
      t.requests = s.requests ∧ t.calendar = s.calendar ∧ t.sequencer = s.sequencer ∧
      t.framePass = s.framePass ∧ t.videoOut = s.videoOut ∧ t.link = s.link ∧
      t.delivery = s.delivery ∧ t.engine = s.engine

/-- Steps 4 and 6 of a detach and its end: the record queue and its companions are emptied; the claim becomes free if
the host holds it, the buffer becomes EMPTY, or READY with the answer of the DETACH that began it, and DISCARDED
is cleared; nothing else changes (R139, R149, R150, R151, R163). Step 5 of a detach: a direct command of the host
that waits for a drain is dropped; one whose transaction is on the bus drains and records nothing; one between
its two attempts ends at once; any other work is left (R126, R149). -/
def Obligations.DetachEndsTheHostsOtherHoldings : Prop :=
  (∀ (h : HostId) (d : Detach) (s : State), (s.port h).detaching = some d →
    (d.next = .records →
      exec (.detachEmptyRecordQueue h) s =
        .next
          ((s.setPort h { s.port h with detaching := some { d with next := .direct } }).setMailbox h
            { queue := [], pendingLoss := 0, lastDiscarded := 0, holdLimit := 0 })) ∧
    (d.next = .claim →
      let s1 := s.setPort h
        { s.port h with
          detaching := none
          discarded := false
          buffer := if d.answers.isSome then .ready { status := .ok, results := [] } else .empty }
      exec (.detachFreeClaim h) s =
        .next (if s.holdsClaim h then { s1 with engine.claim := none } else s1))) ∧
  (∀ (h : HostId) (d : Detach) (s : State), (s.port h).detaching = some d → d.next = .direct →
    let s1 := s.setPort h { s.port h with detaching := some { d with next := .claim } }
    let waiting :=
      match s.link.waiting with
      | some (.direct c) => if c.port = h then none else s.link.waiting
      | w => w
    (∀ w t, s.link.state = .direct w → w.command.port = h → w.bus = some t →
      exec (.detachEndDirectCommand h) s =
        .next
          { s1 with
            link := { s.link with
              state := .draining { bus := t, records := none }, waiting := waiting } }) ∧
    (∀ w, s.link.state = .direct w → w.command.port = h → w.bus = none → waiting = none →
      exec (.detachEndDirectCommand h) s =
        .next { s1 with link := { s.link with state := .idle, waiting := none } }) ∧
    ((∀ w, s.link.state = .direct w → w.command.port ≠ h) →
      exec (.detachEndDirectCommand h) s =
        .next { s1 with link := { s.link with waiting := waiting } }))

/-- GET_STATUS is handed on in both attach states; taken, it answers the 19 bytes of R153, read as they stand then,
and changes nothing else; with an argument it is refused RANGE (R144, R147, R152, R153). The serial number and the
20 µs beside it are the model's bookkeeping and no rule's (log entries 4 and 10). -/
def Obligations.GetStatusAnswersItsNineteenBytes : Prop :=
  (∀ (h : HostId) (n : Byte) (args : List Byte) (s : State),
    (s.port h).select = some (.command (0x03 :: n :: args)) → n.toNat ≤ 32 → args.length = n.toNat →
    (s.port h).buffer.isPending = false →
      ∃ t, exec (.commandTransaction h .rises) s = .next t ∧
        (t.port h).handed = (s.port h).handed ++
          [{ serial := (s.port h).nextSerial, code := .getStatus, args := args, stale := false
             left := 20 }]) ∧
  ∀ (h : HostId) (cmd : Handed) (s : State), (s.port h).waitingCommand .getStatus = some cmd →
    (cmd.args ≠ [] →
      exec (.getStatus h) s = .next (answering h cmd .range [] (taken s h .getStatus))) ∧
    (cmd.args = [] →
      exec (.getStatus h) s =
        .next
          (answering h cmd .ok
            ([BitVec.ofNat 8 h.number, if (s.port h).attached then 1 else 0,
                match s.engine.state with
                | .stopped => 0 | .running => 1 | .stopping => 2 | .halted => 3,
                match s.engine.fault with
                | .none => 0 | .sensorLink => 1 | .sensorStall => 2,
                match s.engine.claim with
                | none => 0xFF
                | some c => BitVec.ofNat 8 c.holder.number,
                BitVec.ofNat 8 (s.port h).mask, BitVec.ofNat 8 (s.port h).notices.length,
                BitVec.ofNat 8 (s.mailbox h).queue.length,
                BitVec.ofNat 8 (s.mailbox h).pendingLoss]
              ++ beBytes 2 (s.mailbox h).holdLimit ++ beBytes 4 (s.mailbox h).lastDiscarded.toNat
              ++ beBytes 4 s.sequencer.frameNumber.toNat)
            (taken s h .getStatus)))

/-- GET_NOTICE removes the head entry and answers its kind, subject, detail and the entries left, or EMPTY;
SET_ATTENTION sets the mask, 0 to 7; an argument out of place is refused RANGE; nothing else changes (R156,
R159). What a notice queue makes of a notice posted to an ATTACHED port, by what it holds; a DETACHED port drops
it, and no other port is touched (the table of R154, R155). -/
def Obligations.NoticesArePostedAndTaken : Prop :=
  (∀ (h : HostId) (cmd : Handed) (s : State),
    (Takes s h .getNotice cmd →
      let s1 := taken s h .getNotice
      (cmd.args ≠ [] → exec (.getNotice h) s = .next (answering h cmd .range [] s1)) ∧
      (cmd.args = [] → (s.port h).notices = [] →
        exec (.getNotice h) s = .next (answering h cmd .empty [] s1)) ∧
      (∀ n rest, cmd.args = [] → (s.port h).notices = n :: rest →
        exec (.getNotice h) s =
          .next
            (answering h cmd .ok
              ([n.kind.toByte] ++ beBytes 2 n.subject
                ++ [BitVec.ofNat 8 n.detail, BitVec.ofNat 8 rest.length])
              (s1.setPort h { s1.port h with notices := rest })))) ∧
    (Takes s h .setAttention cmd →
      let s1 := taken s h .setAttention
      (∀ mask : Byte, cmd.args = [mask] → mask.toNat ≤ 7 →
        exec (.setAttention h) s =
          .next (answering h cmd .ok [] (s1.setPort h { s1.port h with mask := mask.toNat }))) ∧
      ((∀ mask : Byte, cmd.args = [mask] → 7 < mask.toNat) →
        exec (.setAttention h) s = .next (answering h cmd .range [] s1)))) ∧
  (∀ (h : HostId) (n : Notice) (s : State),
    ((s.port h).attached = false → postNotice h n s = s) ∧
    ((s.port h).attached = true → (∀ m ∈ (s.port h).notices, m.kind ≠ .noticeLost) →
      (s.port h).notices.length ≤ 14 →
        postNotice h n s = s.setPort h { s.port h with notices := (s.port h).notices ++ [n] }) ∧
    ((s.port h).attached = true → (∀ m ∈ (s.port h).notices, m.kind ≠ .noticeLost) →
      (s.port h).notices.length = 15 →
        postNotice h n s =
          s.setPort h
            { s.port h with
              notices := (s.port h).notices ++ [{ kind := .noticeLost, subject := 1, detail := 0 }] }) ∧
    (∀ front lost, (s.port h).attached = true → (s.port h).notices = front ++ [lost] →
      lost.kind = .noticeLost →
        postNotice h n s =
          s.setPort h
            { s.port h with
              notices := front ++ [{ lost with subject := if lost.subject < 65535 then lost.subject + 1
                                                          else 65535 }] }))

/-! ### The arguments of the commands (0.6, Tables 1-3 and 10-1 and the rules of the commands) -/

/-- The arguments of the Request Manager's and the Calendar's commands, of ACK_RECORD and of SET_HOLD: what is read,
and that nothing else is (R8, R11, R14, R64, R135, R137). The arguments of SET_CONFIG, SET_QUOTA, SET_MAP,
SENSOR_READ and SENSOR_WRITE (R116, R124, R125, R164, R166, Table 10-1). -/
def Obligations.RequestAndConfigurationArgumentsAreRead : Prop :=
  ((∀ args a, submitArgs args = some a ↔
    ∃ kind count,
      args = beBytes 1 a.tag ++ beBytes 1 kind ++ beBytes 1 a.profile.val ++ beBytes 1 a.period
        ++ beBytes 1 a.preferredPhase ++ beBytes 1 a.priority ++ beBytes 1 a.missLimit
        ++ beBytes 2 count ∧
      1 ≤ a.tag ∧ a.tag ≤ 255 ∧ a.period ∈ [1, 2, 4, 8, 16, 32, 64] ∧ a.preferredPhase ≤ 63 ∧
      a.priority ≤ 3 ∧ a.missLimit ≤ 15 ∧
      ((kind = 0 ∧ count = 0 ∧ a.kind = .stream) ∨
        (kind = 1 ∧ 1 ≤ count ∧ count ≤ 65535 ∧ a.kind = .burst count 0))) ∧
  (∀ args tag, tagArg args = some tag ↔ args = beBytes 1 tag ∧ 1 ≤ tag ∧ tag ≤ 255) ∧
  (∀ args shadow index, readSlotArgs args = some (shadow, index) ↔
    args = beBytes 1 (if shadow then 1 else 0) ++ beBytes 1 index ∧ index ≤ 63) ∧
  (∀ args number, ackArg args = some number ↔ args = beBytes 4 number.toNat) ∧
  (∀ args limit, holdArg args = some limit ↔
    args = beBytes 2 limit ∧ (limit = 0 ∨ (10 ≤ limit ∧ limit ≤ 5000)))) ∧
  ((∀ args item, configArgs args = some item ↔
    match item with
    | .slotPeriod v => args = 0x00 :: beBytes 4 v ∧ 1000 ≤ v ∧ v ≤ 1000000
    | .claimExpiry v => args = 0x01 :: beBytes 2 v ∧ 100 ≤ v ∧ v ≤ 60000
    | .address a => args = 0x02 :: beBytes 1 a.toNat
    | .width v => args = 0x03 :: beBytes 2 v ∧ 64 ≤ v ∧ v ≤ 4096 ∧ 16 ∣ v
    | .height v => args = 0x04 :: beBytes 2 v ∧ 8 ≤ v ∧ v ≤ 4096 ∧ 8 ∣ v
    | .readout v => args = 0x05 :: beBytes 4 v ∧ 100 ≤ v ∧ v ≤ 500000
    | .lineTime v => args = 0x06 :: beBytes 4 v ∧ 1000 ≤ v ∧ v ≤ 100000) ∧
  (∀ args g q, quotaArgs args = some (g, q) ↔
    args = beBytes 1 g.number ++ beBytes 1 q.requests ++ beBytes 1 q.profiles ∧ q.requests ≤ 32 ∧
      q.profiles ≤ 16) ∧
  (∀ args op, sensorReadArgs args = some op ↔
    ∃ register count, op = .read register count ∧
      args = beBytes 2 register.toNat ++ beBytes 1 count ∧ 1 ≤ count ∧ count ≤ 3) ∧
  (∀ args op, sensorWriteArgs args = some op ↔
    ∃ register bytes, op = .write register bytes ∧ args = beBytes 2 register.toNat ++ bytes ∧
      1 ≤ bytes.length ∧ bytes.length ≤ 3) ∧
  (∀ args kind e, setMapArgs args = some (kind, e) ↔
    args =
      (match kind with
        | .exposure => 0x00 | .gain => 0x01 | .cropX => 0x02 | .cropY => 0x03 | .cropW => 0x04
        | .cropH => 0x05) :: (beBytes 2 e.register.toNat ++ beBytes 1 e.count) ∧ e.count ≤ 3))

/-- The arguments of the profile and mode commands (R25, R26, R30 to R37, R89, R90). -/
def Obligations.ProfileArgumentsAreRead : Prop :=
  (∀ args id, profileArg args = some id ↔ args = beBytes 1 id.val) ∧
  (∀ args id e g, setExposureArgs args = some (id, e, g) ↔
    args = beBytes 1 id.val ++ beBytes 4 e ++ beBytes 2 g ∧ 10 ≤ e ∧ e ≤ 1000000 ∧ 16 ≤ g ∧
      g ≤ 256) ∧
  (∀ args id l, setLimitsArgs args = some (id, l) ↔
    args = beBytes 1 id.val ++ beBytes 4 l.exposureMin ++ beBytes 4 l.exposureMax
      ++ beBytes 2 l.gainMin ++ beBytes 2 l.gainMax ∧
    10 ≤ l.exposureMin ∧ l.exposureMin ≤ l.exposureMax ∧ l.exposureMax ≤ 1000000 ∧
    16 ≤ l.gainMin ∧ l.gainMin ≤ l.gainMax ∧ l.gainMax ≤ 256) ∧
  (∀ args id target tolerance, setTargetArgs args = some (id, target, tolerance) ↔
    args = beBytes 1 id.val ++ beBytes 2 target ++ beBytes 1 tolerance ∧ 64 ≤ target ∧
      target ≤ 960 ∧ 4 ≤ tolerance ∧ tolerance ≤ 128) ∧
  (∀ sensorWidth sensorHeight args id w, setWindowArgs sensorWidth sensorHeight args = some (id, w) ↔
    args = beBytes 1 id.val ++ beBytes 2 w.x ++ beBytes 2 w.y ++ beBytes 2 w.width
      ++ beBytes 2 w.height ∧
    w.x < 65536 ∧ w.y < 65536 ∧ w.width < 65536 ∧ w.height < 65536 ∧
    16 ∣ w.x ∧ 16 ∣ w.width ∧ 8 ∣ w.y ∧ 8 ∣ w.height ∧ 64 ≤ w.width ∧ 8 ≤ w.height ∧
    w.x + w.width ≤ sensorWidth ∧ w.y + w.height ≤ sensorHeight) ∧
  (∀ args id steps, setStepsArgs args = some (id, steps) ↔
    args = beBytes 1 id.val ++ beBytes 1 steps.length
      ++ steps.flatMap (fun t => [BitVec.ofInt 8 t.shift, BitVec.ofInt 8 t.offset]) ∧
    1 ≤ steps.length ∧ steps.length ≤ 4 ∧
    ∀ t ∈ steps, -3 ≤ t.shift ∧ t.shift ≤ 3 ∧ -64 ≤ t.offset ∧ t.offset ≤ 64) ∧
  (∀ args id sharing, shareArgs args = some (id, sharing) ↔
    args = beBytes 1 id.val ++ [if sharing = .ownerOnly then 0x00 else 0x01]) ∧
  (∀ args id mode, setModeArgs args = some (id, mode) ↔
    args = beBytes 1 id.val ++ [if mode = .manual then 0x00 else 0x01])

/-- A command that its block takes on a port that is DETACHED, or overtaken by a detach of it, is refused
NOT_ATTACHED and changes nothing else, ATTACH and GET_STATUS apart (R144, R152 and the first check of every
command's rule). That a command overtaken by a detach is refused NOT_ATTACHED even on a port attached again since
is the model's reading of R152 (log entry 7). Arguments that a command's reader does not read are refused RANGE,
before any check of the tables, the claim or the engine, and nothing else changes (the RANGE check of every
command's rule). That a window outside the sensor area is refused RANGE so early, before NO_SUCH and NOT_OWNER,
is the model's choice (log entry 8). -/
def Obligations.CommandsCheckTheirPortAndArgumentsFirst : Prop :=
  (∀ (h : HostId) (c : CommandCode) (cmd : Handed) (s : State), c ≠ .attach → c ≠ .getStatus →
    (s.port h).waitingCommand c = some cmd → (s.port h).attached = false ∨ cmd.stale = true →
      exec (takingOf h c) s = .next (answering h cmd .notAttached [] (taken s h c))) ∧
  (∀ (h : HostId) (c : CommandCode) (cmd : Handed) (s : State), Takes s h c cmd →
    (match c with
      | .submit => submitArgs cmd.args = none
      | .cancel | .resume | .queryRequest | .listRequests => tagArg cmd.args = none
      | .deleteProfile | .readProfile | .tune => profileArg cmd.args = none
      | .setExposure => setExposureArgs cmd.args = none
      | .setLimits => setLimitsArgs cmd.args = none
      | .setTarget => setTargetArgs cmd.args = none
      | .setWindow =>
        setWindowArgs s.link.description.width s.link.description.height cmd.args = none
      | .setSteps => setStepsArgs cmd.args = none
      | .share => shareArgs cmd.args = none
      | .setMode => setModeArgs cmd.args = none
      | .readSlot => readSlotArgs cmd.args = none
      | .ackRecord => ackArg cmd.args = none
      | .setHold => holdArg cmd.args = none
      | .setConfig => configArgs cmd.args = none
      | .setQuota => quotaArgs cmd.args = none
      | .sensorRead => sensorReadArgs cmd.args = none
      | .sensorWrite => sensorWriteArgs cmd.args = none
      | .setMap => setMapArgs cmd.args = none
      | .setAttention => ∀ mask : Byte, cmd.args = [mask] → 7 < mask.toNat
      | .attach => False
      | .detach | .getStatus | .getNotice | .createProfile | .rebuild | .getCalendarInfo
      | .fetchRecord | .claim | .release | .readConfig | .start | .stop => cmd.args ≠ []) →
    exec (takingOf h c) s = .next (answering h cmd .range [] (taken s h c)))

/-! ### Request Manager -/

/-- An accepted SUBMIT: a PENDING entry with the arguments, the first admission sequence after the counter that no
live request holds, the reference count of the profile raised by one, one trigger, the answer the admission
sequence, and nothing else (R2, R4, R8, R9, R10). The checks of SUBMIT after the arguments, in the order of Table
1-4: the first that fails gives its status, and nothing else changes (R8, R9). -/
def Obligations.SubmitAdmitsOrRefusesInOrder : Prop :=
  (∀ (h : HostId) (cmd : Handed) (a : SubmitArgs) (p : Profile) (n : BitVec 32) (skipped : Nat) (s : State),
    Takes s h .submit cmd → submitArgs cmd.args = some a →
    (∀ r ∈ s.requests.table, ¬(r.owner = h ∧ r.tag = a.tag)) →
    s.profile a.profile = some p → (p.life = .live h ∨ (p.sharing = .shared ∧ p.life ≠ .orphaned)) →
    p.steps.length ≤ a.period →
    (s.requestsOf h).length < (s.engine.quotas.get h).requests → s.requests.table.length < 32 →
    n = s.requests.counter + 1 + BitVec.ofNat 32 skipped →
    (∀ r ∈ s.requests.table, r.sequence ≠ n) →
    skipped < 32 →
    (∀ j < skipped, ∃ r ∈ s.requests.table, r.sequence = s.requests.counter + 1 + BitVec.ofNat 32 j) →
      let s1 : State :=
        { taken s h .submit with
          requests :=
            { table := s.requests.table ++
                [{ owner := h, tag := a.tag, kind := a.kind, profile := a.profile,
                   period := a.period, preferredPhase := a.preferredPhase, priority := a.priority,
                   missLimit := a.missLimit, misses := 0, sequence := n, state := .pending }]
              counter := n }
          profiles := s.profiles.set a.profile (some { p with references := p.references + 1 }) }
      exec (.submit h) s =
        .next
          (answering h cmd .ok (beBytes 4 n.toNat)
            { s1 with
              calendar := { s.calendar with builder := triggered s.calendar.builder s1 } })) ∧
  (∀ (h : HostId) (cmd : Handed) (a : SubmitArgs) (s : State),
    Takes s h .submit cmd → submitArgs cmd.args = some a →
    let refused := fun status => exec (.submit h) s = .next (answering h cmd status [] (taken s h .submit))
    let taggedAlready := ∃ r ∈ s.requests.table, r.owner = h ∧ r.tag = a.tag
    (taggedAlready → refused .duplicate) ∧
    (¬taggedAlready →
      (s.profile a.profile = none → refused .noSuch) ∧
      ∀ p, s.profile a.profile = some p →
        let usable := p.life = .live h ∨ (p.sharing = .shared ∧ p.life ≠ .orphaned)
        let full := (s.engine.quotas.get h).requests ≤ (s.requestsOf h).length
        (¬usable → refused .notOwner) ∧
        (usable → a.period < p.steps.length → refused .range) ∧
        (usable → p.steps.length ≤ a.period → full → refused .quota) ∧
        (usable → p.steps.length ≤ a.period → ¬full → 32 ≤ s.requests.table.length →
          refused .tableFull)))

/-- CANCEL frees the entry in whatever state, takes an ACTIVE request's pair out of the active calendar, lowers the
reference count of its profile, an ORPHANED one whose count reaches 0 being freed, posts CANCELLED, and triggers
a rebuild if the request was ACTIVE and one is WAITING; where it takes the last ACTIVE request from a profile in
TUNING, the tune ends in MANUAL with the values reached, and TUNE_ABORTED with the tune frames reached goes to
the owner, after CANCELLED (log entry 11); without such a request it is refused NO_SUCH (R5, R6, R7, R11, R27,
R59, R100). Stated for tables in the form of R1, in which a live request's profile exists (R27). -/
def Obligations.CancelFreesTheRequest : Prop :=
  ∀ (h : HostId) (cmd : Handed) (tag : Nat) (s : State),
    Takes s h .cancel cmd → tagArg cmd.args = some tag → RequestsOk s →
    let s1 := taken s h .cancel
    ((∀ r ∈ s.requests.table, ¬(r.owner = h ∧ r.tag = tag)) →
      exec (.cancel h) s = .next (answering h cmd .noSuch [] s1)) ∧
    (∀ r p, r ∈ s.requests.table → r.owner = h → r.tag = tag → s.profile r.profile = some p →
      let rest := s.requests.table.filter fun q => q != r
      let cancelled := fun _ : Request => [(h, { kind := .cancelled, subject := tag, detail := 0 : Notice })]
      let s2 : State :=
        { s1 with
          ports := told (leavingNotices s cancelled [] [r]) s1
          requests := { s.requests with table := rest }
          profiles :=
            s.profiles.set r.profile
              (if p.life = .orphaned ∧ p.references ≤ 1 then none
              else
                some
                  { p with
                    references := p.references - 1, mode := modeLeft rest [r] r.profile p.mode })
          calendar :=
            { s.calendar with
              active :=
                if r.isActive then s.calendar.active.map (Slot.without { host := h, tag := tag })
                else s.calendar.active } }
      exec (.cancel h) s =
        .next
          (answering h cmd .ok []
            (if r.isActive = true ∧ ∃ q ∈ rest, q.state = .waiting then
              { s2 with
                calendar := { s2.calendar with builder := triggered s.calendar.builder s2 } }
            else s2)))

/-- RESUME: a SUSPENDED request becomes PENDING with no misses, everything else of it kept, and a rebuild is asked
for; in any other state it is refused STATE and left, and a tag the host has no live request of is refused
NO_SUCH (R7, R12). -/
def Obligations.ResumeMakesASuspendedRequestPending : Prop :=
  ∀ (h : HostId) (cmd : Handed) (tag : Nat) (s : State),
    Takes s h .resume cmd → tagArg cmd.args = some tag → RequestsOk s →
    let s1 := taken s h .resume
    ((∀ r ∈ s.requests.table, ¬(r.owner = h ∧ r.tag = tag)) →
      exec (.resume h) s = .next (answering h cmd .noSuch [] s1)) ∧
    ∀ r ∈ s.requests.table, r.owner = h → r.tag = tag →
      (r.state ≠ .suspended → exec (.resume h) s = .next (answering h cmd .state [] s1)) ∧
      (r.state = .suspended →
        let s2 : State :=
          { s1 with
            requests :=
              { s.requests with
                table := s.requests.table.map fun q =>
                  if q = r then { q with misses := 0, state := .pending } else q } }
        exec (.resume h) s =
          .next
            (answering h cmd .ok []
              { s2 with
                calendar := { s.calendar with builder := triggered s.calendar.builder s2 } }))

/-- QUERY_REQUEST answers the 18 bytes of R13 for the host's own request of that tag, else NO_SUCH, and changes
nothing else. LIST_REQUESTS answers n, the number of the host's live requests above the last tag returned, and
the n pairs of tag and state, which are the lowest n tags from the start tag on, at most 29; it changes nothing
else (R14). That a command overtaken by a detach is refused NOT_ATTACHED even on a port attached again since is
the model's reading of R152 (log entry 7). -/
def Obligations.RequestsAreQueriedAndListed : Prop :=
  (∀ (h : HostId) (cmd : Handed) (s : State), (s.port h).waitingCommand .queryRequest = some cmd →
    let s1 := taken s h .queryRequest
    ((s.port h).attached = false ∨ cmd.stale = true →
      exec (.queryRequest h) s = .next (answering h cmd .notAttached [] s1)) ∧
    ((s.port h).attached = true → cmd.stale = false →
      (¬(∃ tag, cmd.args = beBytes 1 tag ∧ 1 ≤ tag ∧ tag ≤ 255) →
        exec (.queryRequest h) s = .next (answering h cmd .range [] s1)) ∧
      ∀ tag, cmd.args = beBytes 1 tag → 1 ≤ tag → tag ≤ 255 →
        ((∀ r ∈ s.requests.table, ¬(r.owner = h ∧ r.tag = tag)) →
          exec (.queryRequest h) s = .next (answering h cmd .noSuch [] s1)) ∧
        ∀ r ∈ s.requests.table, r.owner = h → r.tag = tag →
          (∀ q ∈ s.requests.table, q.owner = h → q.tag = tag → q = r) →
          exec (.queryRequest h) s =
            .next
              (answering h cmd .ok
                (beBytes 1 r.tag
                  ++ ([match r.kind with | .stream => 0x00 | .burst _ _ => 0x01] : List Byte)
                  ++ ([match r.state with
                    | .pending => 0x00 | .waiting => 0x01 | .active _ => 0x02 | .suspended => 0x03] : List Byte)
                  ++ beBytes 1 r.profile.val ++ beBytes 1 r.period ++ beBytes 1 r.preferredPhase
                  ++ beBytes 1 r.priority ++ beBytes 1 r.missLimit ++ beBytes 1 r.misses
                  ++ (match r.kind with
                    | .stream => [0x00, 0x00, 0x00, 0x00]
                    | .burst count done => beBytes 2 count ++ beBytes 2 done)
                  ++ (match r.state with
                    | .active phase => beBytes 1 phase
                    | _ => [0xFF])
                  ++ beBytes 4 r.sequence.toNat)
                s1))) ∧
  (∀ (h : HostId) (cmd : Handed) (s : State), (s.port h).waitingCommand .listRequests = some cmd →
    RequestsOk s →
    let s1 := taken s h .listRequests
    ((s.port h).attached = false ∨ cmd.stale = true →
      exec (.listRequests h) s = .next (answering h cmd .notAttached [] s1)) ∧
    ((s.port h).attached = true → cmd.stale = false →
      (¬(∃ start, cmd.args = beBytes 1 start ∧ 1 ≤ start ∧ start ≤ 255) →
        exec (.listRequests h) s = .next (answering h cmd .range [] s1)) ∧
      ∀ start, cmd.args = beBytes 1 start → 1 ≤ start → start ≤ 255 →
        ∃ listed rest : List Request,
          (listed ++ rest).Perm
            (s.requests.table.filter fun r => r.owner == h && decide (start ≤ r.tag)) ∧
          (listed ++ rest).Pairwise (fun a b => a.tag < b.tag) ∧
          listed.length = min 29 (listed ++ rest).length ∧
          exec (.listRequests h) s =
            .next
              (answering h cmd .ok
                ([BitVec.ofNat 8 listed.length, BitVec.ofNat 8 rest.length]
                  ++ listed.flatMap fun r =>
                    [BitVec.ofNat 8 r.tag,
                      match r.state with
                      | .pending => 0x00 | .waiting => 0x01 | .active _ => 0x02
                      | .suspended => 0x03])
                s1)))

/-- A miss report: the consecutive misses of each live request named rise by one, saturating at 255; a request whose
misses then equal its nonzero miss limit becomes SUSPENDED, keeps everything else, and leaves the active
calendar; every other request is left. In the order of the tags the host gets SUSPENDED with the misses of each,
behind it TUNE_ABORTED goes to the owner of a tune that this suspension leaves without an ACTIVE request (log
entry 11), and that profile goes to MANUAL; one trigger if a suspended request was ACTIVE and a request is
WAITING, tested and raised once after the last suspension, which is the model's reading of R7 (log entry 27);
nothing else changes (R5, R7, R19, R20, R59, R100). Stated for the distinct tags of a record and for tables in
the form of R1. -/
def Obligations.MissesAreChargedAndSuspend : Prop :=
  ∀ (h : HostId) (tags : List Nat) (s : State), RequestsOk s → CalendarOk s → tags.Nodup →
    let t := missReport h tags s
    let named := fun r : Request => r.owner == h && tags.contains r.tag
    let raised := fun r : Request => if r.misses < 255 then r.misses + 1 else 255
    let suspends := fun r : Request =>
      named r && raised r == r.missLimit && r.missLimit != 0 && r.state != .suspended
    let leavers := tags.filterMap fun tag =>
      s.requests.table.find? fun r => r.owner == h && r.tag == tag && suspends r
    let suspended := fun r : Request =>
      [(h, { kind := .suspended, subject := r.tag, detail := raised r : Notice })]
    (∀ id, t.profile id =
      (s.profile id).map fun p => { p with mode := modeLeft t.requests.table leavers id p.mode }) ∧
    t =
      { s with
        ports := told (leavingNotices s suspended [] leavers) s
        profiles := t.profiles
        requests :=
          { s.requests with
            table := s.requests.table.map fun r =>
              if named r then
                { r with misses := raised r, state := if suspends r then .suspended else r.state }
              else r }
        calendar :=
          { s.calendar with
            active :=
              s.calendar.active.map
                (dropPairs fun p =>
                  s.requests.table.any fun r => r.named p.host p.tag && suspends r && r.isActive)
            builder :=
              if (s.requests.table.any fun r => suspends r && r.isActive) ∧
                  t.requests.table.any (fun r => r.state == .waiting) then
                triggered s.calendar.builder t
              else s.calendar.builder } }

/-! ### Profile Manager and Exposure Control -/

/-- CREATE_PROFILE: the profile quota, then room, then a LIVE profile of the asking host with the values of Table 2-2
in the entry of the lowest free id, which is the answer; nothing else changes (R24, R29). The accepted edits of a
LIVE profile by its owner: each replaces what it names, keeps every other field of the profile and every other
entry, answers OK, and changes nothing else (R28, R30, R32 to R37, R89, R90). -/
def Obligations.ProfilesAreCreatedAndEdited : Prop :=
  (∀ (h : HostId) (cmd : Handed) (s : State), Takes s h .createProfile cmd → cmd.args = [] →
    let s1 := taken s h .createProfile
    let owned := (allProfileIds.filter fun id => (s.profile id).any fun p => p.life == .live h).length
    let quota := (s.engine.quotas.get h).profiles
    (quota ≤ owned → exec (.createProfile h) s = .next (answering h cmd .quota [] s1)) ∧
    (owned < quota → (∀ id, s.profile id ≠ none) →
      exec (.createProfile h) s = .next (answering h cmd .tableFull [] s1)) ∧
    (owned < quota → ∀ id, s.profile id = none → (∀ j < id, s.profile j ≠ none) →
      exec (.createProfile h) s =
        .next
          (answering h cmd .ok [BitVec.ofNat 8 id.val]
            (s1.setProfile id
              (some
                { sharing := .ownerOnly, life := .live h, mode := .manual, baseExposure := 10000,
                  baseGain := 16, exposureMin := 10, exposureMax := 1000000, gainMin := 16,
                  gainMax := 256, target := 512, tolerance := 32,
                  window :=
                    { x := 0, y := 0, width := s.link.description.width,
                      height := s.link.description.height },
                  steps := [{ shift := 0, offset := 0 }], references := 0 }))))) ∧
  (∀ (h : HostId) (id : Fin 16) (cmd : Handed) (p : Profile) (s : State),
    s.profile id = some p → p.life = .live h →
    let leaves := fun (c : CommandCode) (q : Option Profile) =>
      (.next (answering h cmd .ok [] ((taken s h c).setProfile id q)) : Host.Outcome State Fault Refusal)
    (Takes s h .deleteProfile cmd → profileArg cmd.args = some id → p.references = 0 →
      exec (.deleteProfile h) s = leaves .deleteProfile none) ∧
    (∀ e g, Takes s h .setExposure cmd → setExposureArgs cmd.args = some (id, e, g) →
      p.mode = .manual →
      exec (.setExposure h) s =
        leaves .setExposure (some { p with baseExposure := e, baseGain := g })) ∧
    (∀ l, Takes s h .setLimits cmd → setLimitsArgs cmd.args = some (id, l) →
      exec (.setLimits h) s =
        leaves .setLimits
          (some
            { p with
              exposureMin := l.exposureMin, exposureMax := l.exposureMax
              gainMin := l.gainMin, gainMax := l.gainMax })) ∧
    (∀ target tolerance, Takes s h .setTarget cmd →
      setTargetArgs cmd.args = some (id, target, tolerance) →
      exec (.setTarget h) s =
        leaves .setTarget (some { p with target := target, tolerance := tolerance })) ∧
    (∀ w, Takes s h .setWindow cmd →
      setWindowArgs s.link.description.width s.link.description.height cmd.args = some (id, w) →
      exec (.setWindow h) s = leaves .setWindow (some { p with window := w })) ∧
    (∀ steps, Takes s h .setSteps cmd → setStepsArgs cmd.args = some (id, steps) →
      steps.length = p.steps.length ∨ p.references = 0 →
      exec (.setSteps h) s = leaves .setSteps (some { p with steps := steps })) ∧
    (∀ sharing, Takes s h .share cmd → shareArgs cmd.args = some (id, sharing) →
      sharing = .shared ∨ p.sharing = .ownerOnly ∨
        (∀ r ∈ s.requests.table, r.profile = id → r.owner = h) →
      exec (.share h) s = leaves .share (some { p with sharing := sharing })) ∧
    (∀ asked, Takes s h .setMode cmd → setModeArgs cmd.args = some (id, asked) →
      (∀ loop, p.mode ≠ .tuning loop) →
      exec (.setMode h) s =
        leaves .setMode
          (some
            { p with
              mode :=
                match p.mode, asked with
                | _, .manual => .manual
                | .auto loop, .auto => .auto loop
                | _, .auto => .auto { converge := 0, tuneFrames := 0 } })) ∧
    (Takes s h .tune cmd → profileArg cmd.args = some id → p.mode = .manual →
      (∃ r ∈ s.requests.table, r.profile = id ∧ r.isActive = true) →
      exec (.tune h) s =
        leaves .tune (some { p with mode := .tuning { converge := 0, tuneFrames := 0 } })))

/-- The refusals of the commands that edit a profile, in order: NO_SUCH, NOT_OWNER (an ORPHANED profile has no
owner), then the command's own: MODE, IN_USE, NOT_IN_USE; a refused command changes nothing (R28, R30, R32, R36,
R37, R89, R90). -/
def Obligations.EditsAreRefusedInOrder : Prop :=
  ∀ (h : HostId) (c : CommandCode) (id : Fin 16) (cmd : Handed) (s : State), Takes s h c cmd →
    (match c with
      | .deleteProfile | .tune => profileArg cmd.args = some id
      | .setExposure => ∃ e g, setExposureArgs cmd.args = some (id, e, g)
      | .setLimits => ∃ l, setLimitsArgs cmd.args = some (id, l)
      | .setTarget => ∃ target tolerance, setTargetArgs cmd.args = some (id, target, tolerance)
      | .setWindow => ∃ w,
        setWindowArgs s.link.description.width s.link.description.height cmd.args = some (id, w)
      | .setSteps => ∃ steps, setStepsArgs cmd.args = some (id, steps)
      | .share => ∃ sharing, shareArgs cmd.args = some (id, sharing)
      | .setMode => ∃ asked, setModeArgs cmd.args = some (id, asked)
      | _ => False) →
    let refused := fun status =>
      exec (takingOf h c) s = .next (answering h cmd status [] (taken s h c))
    (s.profile id = none → refused .noSuch) ∧
    ∀ p, s.profile id = some p →
      (p.life ≠ .live h → refused .notOwner) ∧
      (p.life = .live h →
        (c = .deleteProfile → p.references ≠ 0 → refused .inUse) ∧
        (c = .setExposure → p.mode ≠ .manual → refused .mode) ∧
        (∀ steps, c = .setSteps → setStepsArgs cmd.args = some (id, steps) →
          steps.length ≠ p.steps.length → p.references ≠ 0 → refused .inUse) ∧
        (c = .share → shareArgs cmd.args = some (id, .ownerOnly) → p.sharing = .shared →
          (∃ r ∈ s.requests.table, r.profile = id ∧ r.owner ≠ h) → refused .inUse) ∧
        (∀ loop, c = .setMode → p.mode = .tuning loop → refused .mode) ∧
        (c = .tune → p.mode ≠ .manual → refused .mode) ∧
        (c = .tune → p.mode = .manual →
          (∀ r ∈ s.requests.table, r.profile = id → r.isActive = false) → refused .notInUse))

/-- READ_PROFILE answers the 46 bytes of Table 2-3 for the entry as it stands, to every attached host, and changes
nothing else; its checks are NOT_ATTACHED, RANGE, NO_SUCH, in order (R31). GET_CALENDAR_INFO answers the 12 bytes
of Table 3-3 and changes nothing else; its checks are NOT_ATTACHED and RANGE, in order (R65). READ_CONFIG answers
the 45 bytes of the configuration as they stand and changes nothing else, in every engine state; its checks are
NOT_ATTACHED and RANGE, in order (R165). That a command overtaken by a detach is refused NOT_ATTACHED even on a
port attached again since is the model's reading of R152 (log entry 7). -/
def Obligations.ReadCommandsAnswerTheirBytes : Prop :=
  (∀ (h : HostId) (cmd : Handed) (s : State), (s.port h).waitingCommand .readProfile = some cmd →
    let refused := fun status =>
      exec (.readProfile h) s = .next (answering h cmd status [] (taken s h .readProfile))
    ((s.port h).attached = false ∨ cmd.stale = true → refused .notAttached) ∧
    ((s.port h).attached = true → cmd.stale = false →
      (¬(∃ id : Fin 16, cmd.args = [BitVec.ofNat 8 id.val]) → refused .range) ∧
      ∀ id : Fin 16, cmd.args = [BitVec.ofNat 8 id.val] →
        (s.profile id = none → refused .noSuch) ∧
        ∀ p, s.profile id = some p →
          exec (.readProfile h) s =
            .next
              (answering h cmd .ok
                ([BitVec.ofNat 8 id.val,
                    match p.life with | .live o => BitVec.ofNat 8 o.number | .orphaned => 0xFF,
                    match p.sharing with | .ownerOnly => 0x00 | .shared => 0x01,
                    match p.life with | .live _ => 0x00 | .orphaned => 0x01,
                    match p.mode with | .manual => 0x00 | .auto _ => 0x01 | .tuning _ => 0x02]
                  ++ beBytes 4 p.baseExposure ++ beBytes 2 p.baseGain ++ beBytes 4 p.exposureMin
                  ++ beBytes 4 p.exposureMax ++ beBytes 2 p.gainMin ++ beBytes 2 p.gainMax
                  ++ beBytes 2 p.target ++ beBytes 1 p.tolerance ++ beBytes 2 p.window.x
                  ++ beBytes 2 p.window.y ++ beBytes 2 p.window.width ++ beBytes 2 p.window.height
                  ++ beBytes 1 p.steps.length
                  ++ (List.range 4).flatMap (fun i =>
                    match p.steps[i]? with
                    | some t => [BitVec.ofInt 8 t.shift, BitVec.ofInt 8 t.offset]
                    | none => [0x00, 0x00])
                  ++ beBytes 1 p.references
                  ++ (match p.mode with
                    | .manual => [0xFF, 0xFF]
                    | .auto l | .tuning l =>
                      [BitVec.ofNat 8 l.converge, BitVec.ofNat 8 l.tuneFrames]))
                (taken s h .readProfile)))) ∧
  (∀ (h : HostId) (cmd : Handed) (s : State), (s.port h).waitingCommand .getCalendarInfo = some cmd →
    let s1 := taken s h .getCalendarInfo
    let counted := fun (states : RequestState → Bool) =>
      BitVec.ofNat 8 (s.requests.table.filter fun r => states r.state).length
    ((s.port h).attached = false ∨ cmd.stale = true →
      exec (.getCalendarInfo h) s = .next (answering h cmd .notAttached [] s1)) ∧
    ((s.port h).attached = true → cmd.stale = false →
      (cmd.args ≠ [] → exec (.getCalendarInfo h) s = .next (answering h cmd .range [] s1)) ∧
      (cmd.args = [] →
        exec (.getCalendarInfo h) s =
          .next
            (answering h cmd .ok
              (beBytes 2 s.calendar.generation.toNat
                ++ [BitVec.ofNat 8 s.calendar.active.length,
                  BitVec.ofNat 8 (s.calendar.active.filter fun slot => slot != .idle).length]
                ++ (match s.calendar.builder with
                  | .idle => [0x00, 0x00, 0xFF, 0xFF]
                  | .building _ stale _ => [0x01, if stale then 0x01 else 0x00, 0xFF, 0xFF]
                  | .ready sh =>
                    [0x02, 0x00, BitVec.ofNat 8 sh.slots.length, BitVec.ofNat 8 sh.unplaced])
                ++ [counted fun x => x == .pending, counted fun x => x == .waiting,
                  counted fun x => x.isActive, counted fun x => x == .suspended])
              s1)))) ∧
  (∀ (h : HostId) (cmd : Handed) (s : State), (s.port h).waitingCommand .readConfig = some cmd →
    let s1 := taken s h .readConfig
    let d := s.link.description
    let entry := fun e : MapEntry => beBytes 2 e.register.toNat ++ [BitVec.ofNat 8 e.count]
    let quotas := fun q : Quota => [BitVec.ofNat 8 q.requests, BitVec.ofNat 8 q.profiles]
    ((s.port h).attached = false ∨ cmd.stale = true →
      exec (.readConfig h) s = .next (answering h cmd .notAttached [] s1)) ∧
    ((s.port h).attached = true → cmd.stale = false →
      (cmd.args ≠ [] → exec (.readConfig h) s = .next (answering h cmd .range [] s1)) ∧
      (cmd.args = [] →
        exec (.readConfig h) s =
          .next
            (answering h cmd .ok
              (beBytes 4 s.engine.slotPeriod ++ beBytes 2 s.engine.claimExpiry
                ++ beBytes 1 d.address.toNat ++ beBytes 2 d.width ++ beBytes 2 d.height
                ++ beBytes 4 d.readout ++ beBytes 4 d.lineTime
                ++ entry s.link.map.exposure ++ entry s.link.map.gain ++ entry s.link.map.cropX
                ++ entry s.link.map.cropY ++ entry s.link.map.cropW ++ entry s.link.map.cropH
                ++ quotas s.engine.quotas.h0 ++ quotas s.engine.quotas.h1
                ++ quotas s.engine.quotas.h2 ++ quotas s.engine.quotas.h3)
              s1))))

/-- The loop step at the close of a frame: only a qualifying frame of a profile in AUTO or TUNING is judged; off
target, the base values move towards the target within the profile's limits and the slot budget, exposure first
when brightening and gain first when darkening; in TUNING the counts run, and the tune ends in MANUAL with its
notice after three frames on target in a row, or after 32 frames (R91 to R98, R40). Stated for limits and a slot
budget as R33 and R168 leave them. Where the wanted product equals E·G and E lies outside its bounds, that the new
gain is the quotient and not G is the model's reading of R95 (log entry 25). The abort of a tune, which CANCEL, a suspension, the completion of a burst, a
detach and a swap ask for (their own statements say when): a profile in TUNING without an ACTIVE request goes to
MANUAL with the values reached, no loop state, and TUNE_ABORTED goes to its owner with the tune frames reached; a
tune with an ACTIVE request goes on (R100). -/
def Obligations.LoopStepsAndTunesEnd : Prop :=
  (∀ (c : FrameContext) (outcome : FrameOutcome) (p : Profile) (s : State),
    s.profile c.profile = some p → p.gainMin ≤ p.gainMax →
    s.link.description.readout + 110 ≤ s.engine.slotPeriod →
    let budget := s.engine.slotPeriod - s.link.description.readout - 100
    let presentValues := fun t : BracketStep =>
      c.exposure = max 10 (min budget (if 0 ≤ t.shift then p.baseExposure * 2 ^ t.shift.natAbs
                                        else p.baseExposure / 2 ^ t.shift.natAbs)) ∧
      (c.gain : Int) = max 16 (min 256 ((p.baseGain : Int) + t.offset))
    let qualifying := c.stepIndex = 0 ∧ outcome = .normal ∧ c.sizeMismatch = false ∧
      ∃ t rest, p.steps = t :: rest ∧ presentValues t
    (p.mode = .manual ∨ ¬qualifying → judgeFrame c outcome s = s) ∧
    (∀ x, qualifying → c.statistics = some x →
      let product := p.baseExposure * p.baseGain
      let offTarget := p.tolerance < max x.mean p.target - min x.mean p.target
      let wanted := max (product / 2) (min (2 * product) (product * p.target / max 1 x.mean))
      let exposureHeld := fun e =>
        max p.exposureMin (min (max p.exposureMin (min p.exposureMax budget)) e)
      let gainHeld := fun g => max p.gainMin (min p.gainMax g)
      let brightExposure := exposureHeld (wanted / p.baseGain)
      let darkGain := gainHeld (wanted / p.baseExposure)
      let q : Profile :=
        if ¬offTarget then p
        else if product ≤ wanted then
          { p with baseExposure := brightExposure, baseGain := gainHeld (wanted / brightExposure) }
        else { p with baseExposure := exposureHeld (wanted / darkGain), baseGain := darkGain }
      (∀ loop, p.mode = .auto loop → judgeFrame c outcome s = s.setProfile c.profile (some q)) ∧
      (∀ loop, p.mode = .tuning loop →
        let converge := if offTarget then 0 else loop.converge + 1
        let frames := loop.tuneFrames + 1
        (converge < 3 → frames < 32 →
          judgeFrame c outcome s =
            s.setProfile c.profile
              (some { q with mode := .tuning { converge := converge, tuneFrames := frames } })) ∧
        (∀ o, p.life = .live o → 3 ≤ converge ∨ 32 ≤ frames →
          judgeFrame c outcome s =
            postNotice o
              { kind := if 3 ≤ converge then .tuneDone else .tuneFailed
                subject := c.profile.val
                detail := frames }
              (s.setProfile c.profile (some { q with mode := .manual })))))) ∧
  (∀ (id : Fin 16) (p : Profile) (loop : Loop) (s : State), s.profile id = some p →
    p.mode = .tuning loop →
    ((∃ r ∈ s.requests.table, r.profile = id ∧ r.isActive = true) → abortTune id s = s) ∧
    ((∀ r ∈ s.requests.table, r.profile = id → r.isActive = false) →
      (p.life = .orphaned → abortTune id s = s.setProfile id (some { p with mode := .manual })) ∧
      ∀ o, p.life = .live o →
        abortTune id s =
          postNotice o { kind := .tuneAborted, subject := id.val, detail := loop.tuneFrames }
            (s.setProfile id (some { p with mode := .manual }))))

/-! ### Calendar -/

/-- REBUILD raises a trigger and answers the builder state before it; READ_SLOT answers the entry of Table 3-2 as it
stands, from the active calendar or the READY shadow, whose generation is the next one; STATE without a READY
shadow, RANGE at or beyond the cycle length; nothing else changes (R52, R63, R64, Table 3-2). -/
def Obligations.RebuildTriggersAndSlotsAreRead : Prop :=
  ∀ (h : HostId) (cmd : Handed) (s : State),
    (Takes s h .rebuild cmd → cmd.args = [] →
      let s1 := taken s h .rebuild
      let before : Byte :=
        match s.calendar.builder with
        | .idle => 0 | .building _ _ _ => 1 | .ready _ => 2
      exec (.rebuild h) s =
        .next
          (answering h cmd .ok [before]
            { s1 with
              calendar := { s.calendar with builder := triggered s.calendar.builder s1 } })) ∧
    (∀ shadow index, Takes s h .readSlot cmd → readSlotArgs cmd.args = some (shadow, index) →
      let s1 := taken s h .readSlot
      let entry := fun (generation : BitVec 16) (slots : List Slot) =>
        (slots.length ≤ index → exec (.readSlot h) s = .next (answering h cmd .range [] s1)) ∧
        (slots[index]? = some .idle →
          exec (.readSlot h) s =
            .next
              (answering h cmd .ok
                (beBytes 2 generation.toNat ++
                  [BitVec.ofNat 8 slots.length, BitVec.ofNat 8 index, 0x00, 0xFF, 0xFF, 0x00])
                s1)) ∧
        (∀ profile step subscribers, slots[index]? = some (.assigned profile step subscribers) →
          exec (.readSlot h) s =
            .next
              (answering h cmd .ok
                (beBytes 2 generation.toNat ++
                  [BitVec.ofNat 8 slots.length, BitVec.ofNat 8 index, 0x01,
                    BitVec.ofNat 8 profile.val, BitVec.ofNat 8 step,
                    BitVec.ofNat 8 subscribers.length]
                  ++ subscribers.flatMap fun p =>
                    [BitVec.ofNat 8 p.host.number, BitVec.ofNat 8 p.tag])
                s1))
      (shadow = false → entry s.calendar.generation s.calendar.active) ∧
      (∀ sh, shadow = true → s.calendar.builder = .ready sh →
        entry (s.calendar.generation + 1) sh.slots) ∧
      (shadow = true → (∀ sh, s.calendar.builder ≠ .ready sh) →
        exec (.readSlot h) s = .next (answering h cmd .state [] s1)))

/-- The end of a build: a stale one is discarded and a new one begins at once on a new snapshot, with no notice; any
other leaves its shadow READY and posts REBUILD_DONE, with the next generation and the shadow's cycle length,
once to each attached host that owns a candidate still live; nothing else changes (R47, R53). -/
def Obligations.BuildCompleteEndsOrRestartsTheBuild : Prop :=
  ∀ (snap : List Candidate) (stale : Bool) (left : Nat) (s : State),
    s.calendar.builder = .building snap stale left →
    (stale = true →
      exec .buildComplete s =
        .next
          { s with
            calendar :=
              { s.calendar with
                builder := .building (snapshot s) false (200 + 40 * (snapshot s).length) } }) ∧
    (stale = false →
      ∃ ports : PerHost Port,
        exec .buildComplete s =
          .next
            { s with
              ports := ports
              calendar := { s.calendar with builder := .ready (buildShadow snap) } } ∧
        ∀ g,
          let told := (s.port g).attached = true ∧ ∃ c ∈ snap, c.owner = g ∧
            ∃ r ∈ s.requests.table, r.owner = g ∧ r.tag = c.tag ∧ r.sequence = c.sequence
          (¬told → ports.get g = s.port g) ∧
          (told →
            ports.get g =
              { s.port g with
                notices :=
                  joinNotice (s.port g).notices
                    { kind := .rebuildDone, subject := (s.calendar.generation + 1).toNat
                      detail := (buildShadow snap).slots.length } }))

/-- The build takes its candidates by priority class and then by admission sequence, and each at the first of its
phases that fits: from the start phase up to P − k, then from 0 up to the start phase. Placed, its pair ends the
list of each of its slots, an idle one taking its profile and step; with no phase that fits it is unplaced, and
the slots are left (R45, R48, R49, R50). -/
def Obligations.CandidatesArePlacedAtTheirFirstFit : Prop :=
  (∀ candidates sorted : List Candidate, sorted.Perm candidates →
    sorted.Pairwise (fun a b =>
      a.priority < b.priority ∨ (a.priority = b.priority ∧ a.sequence < b.sequence)) →
    buildShadow candidates =
      sorted.foldl placeCandidate
        { slots := List.replicate (candidates.foldl (fun n c => max n c.period) 1) .idle
          placed := [], unplaced := 0 }) ∧
  ∀ (sh : Shadow) (c : Candidate), CandidateOk c → c.period ∣ sh.slots.length →
    let start :=
      match c.state with
      | .active phase => phase
      | _ => if c.period - c.stepCount < c.preferredPhase % c.period then 0
              else c.preferredPhase % c.period
    let inside := fun phase n => phase ≤ n % c.period ∧ n % c.period < phase + c.stepCount
    let fits := fun phase => phase + c.stepCount ≤ c.period ∧
      ∀ n slot, inside phase n → sh.slots[n]? = some slot →
        slot = .idle ∨ ∃ subscribers, slot = .assigned c.profile (n % c.period - phase) subscribers ∧
          subscribers.length < 4
    let before := fun q phase : Nat => if start ≤ phase then start ≤ q ∧ q < phase
      else start ≤ q ∨ q < phase
    ((∀ phase, ¬fits phase) → placeCandidate sh c = { sh with unplaced := sh.unplaced + 1 }) ∧
    (∀ phase, fits phase → (∀ q, before q phase → ¬fits q) →
      ∃ slots : List Slot,
        placeCandidate sh c =
          { slots := slots
            placed := sh.placed ++ [{ owner := c.owner, tag := c.tag, phase := phase }]
            unplaced := sh.unplaced } ∧
        slots.length = sh.slots.length ∧
        ∀ n, n < sh.slots.length →
          (¬inside phase n → slots[n]? = sh.slots[n]?) ∧
          (inside phase n → sh.slots[n]? = some .idle →
            slots[n]? =
              some (.assigned c.profile (n % c.period - phase) [{ host := c.owner, tag := c.tag }])) ∧
          (∀ subscribers, inside phase n →
            sh.slots[n]? = some (.assigned c.profile (n % c.period - phase) subscribers) →
            slots[n]? =
              some
                (.assigned c.profile (n % c.period - phase)
                  (subscribers ++ [{ host := c.owner, tag := c.tag }]))))

/-- What a build makes of any candidates with distinct names: a calendar as long as the largest period, every slot
idle or with 1 to 4 distinct pairs; every candidate placed once or unplaced; and a pair standing in exactly the
slots j·P + phase + i of a placed candidate, with its profile and step i (R42, R45, R46, R47, R50, R51). -/
def Obligations.EveryBuildMakesASoundCalendar : Prop :=
  ∀ candidates : List Candidate, (∀ c ∈ candidates, CandidateOk c) →
    candidates.Pairwise (fun a b => ¬(a.owner = b.owner ∧ a.tag = b.tag)) →
    let sh := buildShadow candidates
    SlotsOk sh.slots ∧
    (∀ c ∈ candidates, c.period ≤ sh.slots.length) ∧
    (sh.slots.length = 1 ∨ ∃ c ∈ candidates, c.period = sh.slots.length) ∧
    sh.placed.length + sh.unplaced = candidates.length ∧
    sh.placed.Pairwise (fun a b => ¬(a.owner = b.owner ∧ a.tag = b.tag)) ∧
    (∀ q ∈ sh.placed, ∃ c ∈ candidates, c.owner = q.owner ∧ c.tag = q.tag ∧
      q.phase + c.stepCount ≤ c.period) ∧
    (∀ profile step subscribers, Slot.assigned profile step subscribers ∈ sh.slots →
      subscribers.Nodup ∧ subscribers.length ≤ 4) ∧
    (∀ (n : Nat) (profile : Fin 16) (step : Nat) (subscribers : List Subscriber) (pair : Subscriber),
      sh.slots[n]? = some (.assigned profile step subscribers) →
      (pair ∈ subscribers ↔
        ∃ c ∈ candidates, ∃ phase,
          { owner := c.owner, tag := c.tag, phase := phase : Placed } ∈ sh.placed ∧
          pair = { host := c.owner, tag := c.tag } ∧ c.profile = profile ∧
          n % c.period = phase + step ∧ step < c.stepCount)) ∧
    (∀ c ∈ candidates, ∀ phase i n,
      { owner := c.owner, tag := c.tag, phase := phase : Placed } ∈ sh.placed → i < c.stepCount →
      n < sh.slots.length → n % c.period = phase + i →
      ∃ subscribers, sh.slots[n]? = some (.assigned c.profile i subscribers) ∧
        { host := c.owner, tag := c.tag } ∈ subscribers)

/-- A swap: the shadow becomes the active calendar without the pairs of requests no longer candidates, the generation
rises, the builder is IDLE; each candidate becomes ACTIVE at its phase or WAITING; a tune without an ACTIVE user
ends; each attached host is told, in order, of its requests (by class and sequence), of its aborted tunes (in
ascending id, log entry 6) and of the swap; nothing else changes (R15, R43, R55, R56, R58, R100). Stated for
tables in the form of R1. -/
def Obligations.SwapReplacesTheCalendar : Prop :=
  ∀ (sh : Shadow) (order : List Request) (s : State), RequestsOk s →
    order.Perm (s.requests.table.filter fun r => r.state != .suspended) →
    order.Pairwise (fun a b =>
      a.priority < b.priority ∨ (a.priority = b.priority ∧ a.sequence < b.sequence)) →
    let phaseOf := fun r : Request =>
      (sh.placed.find? fun p => p.owner == r.owner && p.tag == r.tag).map (·.phase)
    let told := fun r : Request =>
      let n := fun kind => some { kind := kind, subject := r.tag, detail := 0 : Notice }
      match r.state, phaseOf r with
      | .pending, some _ => n .requestActive
      | .waiting, some _ => n .requestActive
      | .pending, none => n .requestWaiting
      | .active _, none => n .displaced
      | _, _ => none
    ∃ (ports : PerHost Port) (profiles : Vector (Option Profile) 16),
      let t : State :=
        { s with
          ports := ports
          profiles := profiles
          requests :=
            { s.requests with
              table := s.requests.table.map fun r =>
                if r.state = .suspended then r
                else
                  { r with
                    state :=
                      match phaseOf r with
                      | some phase => .active phase
                      | none => .waiting } }
          calendar :=
            { active :=
                sh.slots.map
                  (dropPairs fun p =>
                    !s.requests.table.any fun r => r.named p.host p.tag && r.state != .suspended)
              builder := .idle
              generation := s.calendar.generation + 1 } }
      swap sh s = t ∧
      (∀ id, t.profile id =
        (s.profile id).map fun p =>
          match p.mode with
          | .tuning _ => if t.hasActiveUser id then p else { p with mode := .manual }
          | _ => p) ∧
      (∀ g,
        let aborted := allProfileIds.filterMap fun id =>
          match s.profile id with
          | some p =>
            match p.mode with
            | .tuning loop =>
              if p.life = .live g ∧ t.hasActiveUser id = false then
                some { kind := .tuneAborted, subject := id.val, detail := loop.tuneFrames : Notice }
              else none
            | _ => none
          | none => none
        let swapped : Notice :=
          { kind := .swapped, subject := (s.calendar.generation + 1).toNat
            detail := sh.slots.length }
        ports.get g =
          if (s.port g).attached then
            { s.port g with
              notices :=
                ((order.filter fun r => r.owner == g).filterMap told ++ aborted ++ [swapped]).foldl
                  joinNotice (s.port g).notices }
          else s.port g)

/-! ### Delivery -/

/-- FETCH_RECORD answers the 48 bytes of Table 8-2 for the head record, or EMPTY, and changes nothing else; its
checks are NOT_ATTACHED, RANGE, EMPTY, in order (R134). ACK_RECORD: the head's number removes the head, answers
how many are left, and sets the consecutive misses of the live requests it served to 0; else EXPIRED for a number
that no queued record has and that is at most the last discarded one, then EMPTY, then SEQUENCE, with nothing
changed (R21, R130, R135, R138). That a command overtaken by a detach is refused NOT_ATTACHED even on a port
attached again since is the model's reading of R152 (log entry 7). -/
def Obligations.HeadRecordsAreReadAndAcknowledged : Prop :=
  (∀ (h : HostId) (cmd : Handed) (s : State), (s.port h).waitingCommand .fetchRecord = some cmd →
    let refused := fun status =>
      exec (.fetchRecord h) s = .next (answering h cmd status [] (taken s h .fetchRecord))
    ((s.port h).attached = false ∨ cmd.stale = true → refused .notAttached) ∧
    ((s.port h).attached = true → cmd.stale = false →
      (cmd.args ≠ [] → refused .range) ∧
      (cmd.args = [] → (s.mailbox h).queue = [] → refused .empty) ∧
      ∀ r rest, cmd.args = [] → (s.mailbox h).queue = r :: rest →
        let flag := fun (b : Bool) (value : Nat) => if b then value else 0
        exec (.fetchRecord h) s =
          .next
            (answering h cmd .ok
              ([BitVec.ofNat 8 (rest.length + 1)] ++ beBytes 4 r.frameNumber.toNat
                ++ beBytes 2 r.generation.toNat
                ++ [BitVec.ofNat 8 r.slotIndex, BitVec.ofNat 8 r.profile.val,
                  BitVec.ofNat 8 r.stepIndex, BitVec.ofNat 8 r.tags.length]
                ++ (List.range 4).map (fun i => BitVec.ofNat 8 (r.tags[i]?.getD 0))
                ++ beBytes 4 r.exposure ++ beBytes 2 r.gain
                ++ [BitVec.ofNat 8
                      (flag (r.outcome != .normal) 1 + flag r.clamped 2 + flag r.sizeMismatch 4
                        + flag r.tuning 8 + flag r.lost.isSome 16),
                  match r.outcome with
                  | .normal => 0 | .dropped .late => 1 | .dropped .link => 2
                  | .dropped .stall => 3 | .dropped .halt => 4,
                  match r.lost with
                  | some n => BitVec.ofNat 8 n
                  | none => 0]
                ++ (match r.statistics with
                  | some x =>
                    beBytes 2 x.mean ++ (List.finRange 8).flatMap (fun i => beBytes 2 x.histogram[i])
                      ++ beBytes 2 x.clipShare
                  | none => List.replicate 20 0xFF)
                ++ beBytes 4 r.arrival.toNat)
              (taken s h .fetchRecord)))) ∧
  (∀ (h : HostId) (cmd : Handed) (s : State), (s.port h).waitingCommand .ackRecord = some cmd →
    let s1 := taken s h .ackRecord
    let m := s.mailbox h
    let refused := fun status => exec (.ackRecord h) s = .next (answering h cmd status [] s1)
    ((s.port h).attached = false ∨ cmd.stale = true → refused .notAttached) ∧
    ((s.port h).attached = true → cmd.stale = false →
      (cmd.args.length ≠ 4 → refused .range) ∧
      ∀ number : BitVec 32, cmd.args = beBytes 4 number.toNat →
        let expired := (∀ r ∈ m.queue, r.frameNumber ≠ number) ∧ ¬Above number m.lastDiscarded
        (∀ r rest, m.queue = r :: rest → r.frameNumber = number →
          exec (.ackRecord h) s =
            .next
              (answering h cmd .ok [BitVec.ofNat 8 rest.length]
                { s1.setMailbox h { m with queue := rest } with
                  requests :=
                    { s.requests with
                      table := s.requests.table.map fun q =>
                        if q.owner = h ∧ q.tag ∈ r.tags then { q with misses := 0 } else q } })) ∧
        ((∀ r ∈ m.queue.head?, r.frameNumber ≠ number) →
          (expired → refused .expired) ∧
          (¬expired → m.queue = [] → refused .empty) ∧
          (¬expired → m.queue ≠ [] → refused .sequence))))

/-- SET_HOLD replaces the limit, and the records already that old are discarded, the head first, each as at a hold
timeout with its own miss report; the answer is their number. HOLD_TIMEOUT discards the first record whose hold has
run out, counts the loss, notes its number if higher, and reports the miss (R129, R133, R136, R137, R138). That
record is the head, save where the head is more than 71 minutes old: there the model goes by the age of R129,
which wraps, and discards the record wherever it stands (log entry 26). Before a hold has run out the happening
does not fall (log entry 3). -/
def Obligations.HoldsDiscardTheRecordsTheyRunOutOn : Prop :=
  ∀ (h : HostId) (s : State), (s.mailbox h).pendingLoss ≤ 255 →
    let m := s.mailbox h
    let ranOut := fun (limit : Nat) (r : Record) =>
      limit != 0 && decide (limit * 1000 ≤ (s.delivery.clock - r.arrival).toNat)
    let noted := fun (last : BitVec 32) (r : Record) =>
      if higher r.frameNumber last then r.frameNumber else last
    (∀ a b, higher a b = true ↔ Above a b) ∧
    (∀ cmd limit, Takes s h .setHold cmd → holdArg cmd.args = some limit →
      let gone := m.queue.filter (ranOut limit)
      let kept := m.queue.filter fun r => !ranOut limit r
      exec (.setHold h) s =
        .next
          (answering h cmd .ok [BitVec.ofNat 8 gone.length]
            ((gone.foldl (fun t r => missReport h r.tags t) (taken s h .setHold)).setMailbox h
              { queue := kept, pendingLoss := min 255 (m.pendingLoss + gone.length)
                lastDiscarded := gone.foldl noted m.lastDiscarded, holdLimit := limit }))) ∧
    (∀ front r rest, m.queue = front ++ r :: rest → (∀ x ∈ front, ranOut m.holdLimit x = false) →
      ranOut m.holdLimit r = true →
      exec (.holdTimeout h) s =
        .next
          (missReport h r.tags
            (s.setMailbox h
              { m with
                queue := front ++ rest, pendingLoss := min 255 (m.pendingLoss + 1)
                lastDiscarded := noted m.lastDiscarded r }))) ∧
    ((∀ r ∈ m.queue, ranOut m.holdLimit r = false) → exec (.holdTimeout h) s = .next s)

/-- The record of a closed frame for a host: none where no pair of its subscriber list names a live request of the
host; else it joins a queue with room, with its arrival time and with LOSS where records were lost before it, or
is lost to a full queue, counted, noted, and charged as a miss to the tags it would have served (R19, R128, R131,
R132, R133, R138). -/
def Obligations.RecordsJoinOrAreLost : Prop :=
  ∀ (h : HostId) (c : FrameContext) (outcome : FrameOutcome) (s : State),
    let m := s.mailbox h
    let tags := (c.subscribers.filter fun p => p.host == h && isLive s p).map (·.tag)
    let record : Record :=
      { frameNumber := c.frameNumber.getD 0, generation := c.generation, slotIndex := c.slotIndex
        profile := c.profile, stepIndex := c.stepIndex, tags := tags, exposure := c.exposure
        gain := c.gain, outcome := outcome, clamped := c.clamped, tuning := c.tuning
        sizeMismatch := c.sizeMismatch
        lost := if m.pendingLoss = 0 then none else some m.pendingLoss
        statistics := if outcome = .normal then c.statistics else none
        arrival := s.delivery.clock }
    (tags = [] → composeRecord c outcome s h = s) ∧
    (tags ≠ [] → m.queue.length < 8 →
      composeRecord c outcome s h =
        s.setMailbox h { m with queue := m.queue ++ [record], pendingLoss := 0 }) ∧
    (tags ≠ [] → 8 ≤ m.queue.length →
      composeRecord c outcome s h =
        missReport h tags
          (s.setMailbox h
            { m with
              pendingLoss := if m.pendingLoss < 255 then m.pendingLoss + 1 else 255
              lastDiscarded :=
                if higher record.frameNumber m.lastDiscarded then record.frameNumber
                else m.lastDiscarded })) ∧
    composeRecords c outcome s =
      composeRecord c outcome
        (composeRecord c outcome
          (composeRecord c outcome (composeRecord c outcome s .h0) .h1) .h2) .h3

/-! ### Engine Control -/

/-- CLAIM on a free claim, or on the host's own, gives it with a timer of the claim expiry in force; on another's it
is refused CLAIMED. RELEASE frees the holder's claim with no notice; NOT_CLAIMED to others. When the timer has
run out the claim becomes free and CLAIM_EXPIRED goes to the former holder; before, the happening does not fall
(log entry 3). Nothing else changes (R161, R162, R163). -/
def Obligations.ClaimIsGivenReleasedAndExpires : Prop :=
  ∀ (h : HostId) (cmd : Handed) (s : State),
    (Takes s h .claim cmd → cmd.args = [] →
      let s1 := taken s h .claim
      ((∀ c, s.engine.claim = some c → c.holder = h) →
        exec (.claim h) s =
          .next
            (answering h cmd .ok []
              { s1 with
                engine :=
                  { s.engine with
                    claim := some { holder := h, timer := s.engine.claimExpiry * 1000 } } })) ∧
      (∀ c, s.engine.claim = some c → c.holder ≠ h →
        exec (.claim h) s = .next (answering h cmd .claimed [] s1))) ∧
    (Takes s h .release cmd → cmd.args = [] →
      let s1 := taken s h .release
      (∀ c, s.engine.claim = some c → c.holder = h →
        exec (.release h) s =
          .next (answering h cmd .ok [] { s1 with engine := { s.engine with claim := none } })) ∧
      ((∀ c, s.engine.claim = some c → c.holder ≠ h) →
        exec (.release h) s = .next (answering h cmd .notClaimed [] s1))) ∧
    (∀ c, s.engine.claim = some c → c.timer = 0 →
      exec .claimExpiry s =
        .next
          (postNotice c.holder { kind := .claimExpired, subject := 0, detail := 0 }
            { s with engine := { s.engine with claim := none } })) ∧
    ((∀ c, s.engine.claim = some c → 0 < c.timer) → exec .claimExpiry s = .next s)

/-- SET_CONFIG, SET_MAP and SET_QUOTA of the claim holder, the first two with the engine STOPPED or HALTED: the item,
the entry of the kind (whose shadow becomes unknown where it differs) or both quotas of the host named take the
values; an accepted claim expiry restarts the claim timer, also where the value is the one in force, which is the
model's reading (log entry 20); nothing else changes (R116, R118, R162, R164, R166). -/
def Obligations.ConfigurationTakesTheValuesGiven : Prop :=
  ∀ (h : HostId) (cmd : Handed) (c : Claim) (s : State), s.engine.claim = some c → c.holder = h →
    (∀ item, Takes s h .setConfig cmd → configArgs cmd.args = some item →
      s.engine.state = .stopped ∨ s.engine.state = .halted →
      let s1 := taken s h .setConfig
      exec (.setConfig h) s =
        .next
          (answering h cmd .ok []
            { s1 with
              engine :=
                match item with
                | .slotPeriod v => { s.engine with slotPeriod := v }
                | .claimExpiry v =>
                  { s.engine with
                    claimExpiry := v, claim := some { holder := h, timer := v * 1000 } }
                | _ => s.engine
              link :=
                { s.link with
                  description :=
                    match item with
                    | .address v => { s.link.description with address := v }
                    | .width v => { s.link.description with width := v }
                    | .height v => { s.link.description with height := v }
                    | .readout v => { s.link.description with readout := v }
                    | .lineTime v => { s.link.description with lineTime := v }
                    | _ => s.link.description } })) ∧
    (∀ kind entry, Takes s h .setMap cmd → setMapArgs cmd.args = some (kind, entry) →
      s.engine.state = .stopped ∨ s.engine.state = .halted →
      let s1 := taken s h .setMap
      exec (.setMap h) s =
        .next
          (answering h cmd .ok []
            { s1 with
              link :=
                { s.link with
                  map := s.link.map.set kind entry
                  shadow :=
                    if s.link.map.get kind = entry then s.link.shadow
                    else s.link.shadow.set kind none } })) ∧
    (∀ g q, Takes s h .setQuota cmd → quotaArgs cmd.args = some (g, q) →
      let total := fun part : Quota → Nat =>
        (allHosts.map fun x => if x = g then part q else part (s.engine.quotas.get x)).sum
      let owned := (allProfileIds.filter fun id => (s.profile id).any fun p => p.life == .live g).length
      total Quota.requests ≤ 32 → total Quota.profiles ≤ 16 →
      (s.requestsOf g).length ≤ q.requests → owned ≤ q.profiles →
      let s1 := taken s h .setQuota
      exec (.setQuota h) s =
        .next
          (answering h cmd .ok []
            { s1 with engine := { s.engine with quotas := s.engine.quotas.set g q } }))

/-- The refusals of the commands that need the claim, after their arguments: NOT_CLAIMED without it; then STATE where
the engine is not STOPPED or HALTED (SET_CONFIG, SET_MAP, START) or not RUNNING (STOP), BUSY for direct access;
and for SET_QUOTA the totals (RANGE) and what the host named holds (IN_USE); a refused command changes nothing
(R116, R124, R125, R164, R166, R168, R169). -/
def Obligations.ClaimedCommandsAreRefusedInOrder : Prop :=
  ∀ (h : HostId) (c : CommandCode) (cmd : Handed) (s : State), Takes s h c cmd →
    (match c with
      | .setConfig => ∃ item, configArgs cmd.args = some item
      | .setMap => ∃ a, setMapArgs cmd.args = some a
      | .setQuota => ∃ a, quotaArgs cmd.args = some a
      | .sensorRead => ∃ op, sensorReadArgs cmd.args = some op
      | .sensorWrite => ∃ op, sensorWriteArgs cmd.args = some op
      | .start | .stop => cmd.args = []
      | _ => False) →
    let refused := fun status =>
      exec (takingOf h c) s = .next (answering h cmd status [] (taken s h c))
    let holds := ∃ claim, s.engine.claim = some claim ∧ claim.holder = h
    let slotsRun := s.engine.state = .running ∨ s.engine.state = .stopping
    (¬holds → refused .notClaimed) ∧
    (holds →
      (c = .setConfig ∨ c = .setMap ∨ c = .start → slotsRun → refused .state) ∧
      (c = .sensorRead ∨ c = .sensorWrite → slotsRun → refused .busy) ∧
      (c = .stop → s.engine.state ≠ .running → refused .state) ∧
      (∀ g q, c = .setQuota → quotaArgs cmd.args = some (g, q) →
        let total := fun part : Quota → Nat =>
          (allHosts.map fun x => if x = g then part q else part (s.engine.quotas.get x)).sum
        let owned := (allProfileIds.filter fun id => (s.profile id).any fun p => p.life == .live g).length
        let fitting := total Quota.requests ≤ 32 ∧ total Quota.profiles ≤ 16
        (¬fitting → refused .range) ∧
        (fitting → q.requests < (s.requestsOf g).length ∨ q.profiles < owned → refused .inUse)))

/-- START of the claim holder with the engine STOPPED or HALTED: CONFIG_INVALID with its cause where the slot period
is too short, or with the lowest id whose window does not lie in the sensor area; else the fault code none, the
shadow unknown (a transaction under way recording nothing), RUNNING, ENGINE_STARTED to each attached host, the
failure counters 0, the setup point of slot 0, and the slot timer started (R68, R118, R168). -/
def Obligations.StartTakesUpANewRun : Prop :=
  ∀ (h : HostId) (cmd : Handed) (c : Claim) (s : State), Takes s h .start cmd → cmd.args = [] →
    s.engine.claim = some c → c.holder = h →
    s.engine.state = .stopped ∨ s.engine.state = .halted →
    let s1 := taken s h .start
    let tooShort := s.engine.slotPeriod < s.link.description.readout + 110
    let outside := fun id => ∃ p, s.profile id = some p ∧
      (s.link.description.width < p.window.x + p.window.width ∨
        s.link.description.height < p.window.y + p.window.height)
    (tooShort → exec (.start h) s = .next (answering h cmd .configInvalid [0x01, 0xFF] s1)) ∧
    (∀ id : Fin 16, ¬tooShort → outside id → (∀ j < id, ¬outside j) →
      exec (.start h) s =
        .next (answering h cmd .configInvalid [0x02, BitVec.ofNat 8 id.val] s1)) ∧
    (¬tooShort → (∀ id, ¬outside id) →
      let s2 : State :=
        { s1 with
          ports := postedToAll { kind := .engineStarted, subject := 0, detail := 0 } s1
          engine := { s.engine with state := .running, fault := .none }
          link :=
            { s.link with
              shadow := ⟨none, none, none, none, none, none⟩
              state :=
                match s.link.state with
                | .draining w => .draining { w with records := none }
                | l => l }
          sequencer :=
            { s.sequencer with
              linkFailures := 0, stallFailures := 0, position := .beforeSlot0
              next := none, present := none } }
      let s3 := setupPoint s2
      exec (.start h) s =
        .next
          (answering h cmd .ok []
            { s3 with sequencer := { s3.sequencer with slotTimer := some s.engine.slotPeriod } }))

/-- STOP of the claim holder with the engine RUNNING abandons the next-slot context. With no frame in flight the
engine is STOPPED at once, its timers stopped and the slot position absent, ENGINE_STOPPED goes to each attached
host, and the answer is OK with 0; with one in flight it is STOPPING and the answer waits (R66, R67, R84, R169). -/
def Obligations.StopEndsAtOnceOrWaitsForTheFrame : Prop :=
  ∀ (h : HostId) (cmd : Handed) (c : Claim) (s : State), Takes s h .stop cmd → cmd.args = [] →
    s.engine.claim = some c → c.holder = h → s.engine.state = .running →
    let s1 := abandonNext (taken s h .stop)
    (s.sequencer.present = none →
      exec (.stop h) s =
        .next
          (answering h cmd .ok [0x00]
            { s1 with
              ports := postedToAll { kind := .engineStopped, subject := 0, detail := 0 } s1
              engine := { s.engine with state := .stopped }
              sequencer :=
                { s1.sequencer with slotTimer := none, exposureTimer := none, position := .absent } })) ∧
    (∀ f, s.sequencer.present = some f →
      exec (.stop h) s =
        .next
          { s1 with
            engine := { s.engine with state := .stopping, stopWaiting := some (h, cmd.serial) } })

/-- A fault handed to a RUNNING or STOPPING engine: HALTED with that fault, the frame in flight closed DROPPED with
reason HALT, the next-slot context abandoned, the timers stopped, ENGINE_HALTED to each attached host, and a STOP
that waits answered OK with 3 in the buffer that still waits for it; a HALTED or STOPPED engine ignores it (R82,
R83, R169, R170). -/
def Obligations.FaultsHaltARunningEngine : Prop :=
  ∀ (fault : FaultCode) (s : State),
    (¬runs s → halt fault s = s) ∧
    (runs s →
      let s1 := abandonNext
        (dropPresent .halt { s with engine := { s.engine with fault := fault, state := .halted } })
      let s2 : State :=
        { s1 with
          ports :=
            postedToAll
              { kind := .engineHalted, subject := 0
                detail := match fault with | .none => 0 | .sensorLink => 1 | .sensorStall => 2 } s1
          sequencer :=
            { s1.sequencer with slotTimer := none, exposureTimer := none, position := .absent }
          engine := { s1.engine with stopWaiting := none } }
      s1.engine.state = .halted ∧ s1.engine.fault = fault ∧
      s1.sequencer.next = none ∧ s1.sequencer.present = none ∧
      (s.engine.stopWaiting = none → halt fault s = s2) ∧
      (∀ h serial, s.engine.stopWaiting = some (h, serial) →
        halt fault s =
          if (s2.port h).buffer = .pending serial then
            s2.setPort h
              { s2.port h with buffer := .ready { status := .ok, results := [0x03] } }
          else s2))

/-! ### Sensor Link -/

/-- What the link makes of a setup handed to it: idle, it takes it up; draining, it keeps it as waiting work. Taken
up, the write list holds, in the fixed order, each kind with a byte count whose fitted register value is not in
the shadow; an empty list is answered complete at once, any other begins the work, and nothing else changes (R74,
R117, R119, R120). Stated for a line time of 1 or more (Table 7-1). -/
def Obligations.SetupsWriteWhatDiffersFromTheShadow : Prop :=
  ∀ (r : SetupRequest) (s : State), 0 < s.link.description.lineTime →
    let value : ParamKind → Nat := fun k =>
      match k with
      | .exposure =>
        max 1 ((r.exposure * 1000 + s.link.description.lineTime - 1) / s.link.description.lineTime)
      | .gain => r.gain
      | .cropX => r.window.x
      | .cropY => r.window.y
      | .cropW => r.window.width
      | .cropH => r.window.height
    let fits := fun k => min (value k) (256 ^ (s.link.map.get k).count - 1)
    let needed := fun k : ParamKind =>
      (s.link.map.get k).count != 0 && s.link.shadow.get k != some (fits k)
    let writes : List RegisterWrite :=
      ([.exposure, .gain, .cropX, .cropY, .cropW, .cropH].filter needed).map fun k =>
        { kind := k, value := fits k, register := (s.link.map.get k).register
          count := (s.link.map.get k).count }
    (s.link.state = .idle → writes = [] → handSetup r s = answerSetup r.setup true s) ∧
    (s.link.state = .idle → writes ≠ [] →
      handSetup r s =
        { s with
          link :=
            { s.link with
              state :=
                .setup
                  { setup := r.setup, writes := writes, retry := false, bus := none, left := 200 } } }) ∧
    (∀ w, s.link.state = .draining w →
      handSetup r s = { s with link := { s.link with waiting := some (.setup r) } })

/-- An answer to a setup reaches the context in SETUP whose setup it names: complete makes it ARMED, failed leaves it
in SETUP, each with its link result; it changes nothing for any other (R74). An end of a setup discards it where
it waits, drains its transaction where one is on the bus, to record the value it carries, and frees the link
where none is; it leaves the link of another setup, or of one already answered (R75, R119, R123). -/
def Obligations.SetupsAreAnsweredAndEnded : Prop :=
  ∀ (setup : Nat) (s : State),
    (∀ f complete, s.sequencer.next = some f → f.state = .setup → f.setup = setup →
      answerSetup setup complete s =
        { s with
          sequencer :=
            { s.sequencer with
              next :=
                some
                  { f with
                    state := if complete then .armed else .setup
                    context :=
                      { f.context with linkResult := if complete then .complete else .failed } } } }) ∧
    (∀ complete, (∀ f, s.sequencer.next = some f → f.state = .armed ∨ f.setup ≠ setup) →
      answerSetup setup complete s = s) ∧
    (∀ w x rest t, s.link.state = .setup w → w.setup = setup → w.writes = x :: rest →
      w.bus = some t →
      endSetup setup s =
        { s with
          link :=
            { s.link with state := .draining { bus := t, records := some (x.kind, x.value) } } }) ∧
    (∀ w, s.link.state = .setup w → w.setup = setup → w.bus = none → s.link.waiting = none →
      endSetup setup s = { s with link := { s.link with state := .idle } }) ∧
    (∀ w r, s.link.state = .draining w → s.link.waiting = some (.setup r) → r.setup = setup →
      endSetup setup s = { s with link := { s.link with waiting := none } }) ∧
    ((∀ w, s.link.state = .setup w → w.setup ≠ setup) →
      (∀ r, s.link.waiting = some (.setup r) → r.setup ≠ setup) → endSetup setup s = s) ∧
    (∀ f, s.sequencer.next = some f →
      abandonNext s =
        endSetup f.setup { s with sequencer := { s.sequencer with next := none } }) ∧
    (s.sequencer.next = none → abandonNext s = s)

/-- The link begins the next transaction of its setup, or the retry of its direct command, and nothing else changes;
the time given to it, in µs, is its bit times at 2.5 µs, rounded up (R121, R124, R125; log entry 4). With none to
begin the happening does not fall (log entry 3). On the bus: a start condition, the address byte, the register
address and the data, most significant first, and a stop; or, for a read, a repeated start, the address byte with
the read bit, and the data bytes received, of which the FS-4 acknowledges each but the last and not the last, and
a stop. A byte sent that the sensor does not acknowledge ends the transaction with a stop. The bit times are those
of what is on the bus (R121, R122, R124). -/
def Obligations.TransactionsBeginAndSendTheirBytes : Prop :=
  ∀ s : State,
    let write := fun (register : BitVec 16) (bytes : List Byte) =>
      ({ address := s.link.description.address, register := register, data := .write bytes
         left := ((29 + 9 * bytes.length) * 5 + 1) / 2 } : Transaction)
    let read := fun (register : BitVec 16) (count : Nat) =>
      ({ address := s.link.description.address, register := register, data := .read count
         left := ((39 + 9 * count) * 5 + 1) / 2 } : Transaction)
    (∀ w x rest, s.link.state = .setup w → w.bus = none → w.writes = x :: rest →
      exec .i2cTransactionBegin s =
        .next
          (s.setLinkState
            (.setup { w with bus := some (write x.register (beBytes x.count x.value)), left := 0 }))) ∧
    (∀ w, s.link.state = .direct w → w.bus = none →
      exec .i2cTransactionBegin s =
        .next
          (s.setLinkState
            (.direct
              { w with
                bus :=
                  some
                    (match w.command.op with
                      | .read register count => read register count
                      | .write register bytes => write register bytes)
                left := 0 }))) ∧
    (s.link.state = .idle ∨ (∃ w, s.link.state = .draining w) →
      exec .i2cTransactionBegin s = .next s) ∧
    (∀ (address : BitVec 7) (register : BitVec 16) (bytes : List Byte) (count left : Nat),
      let opening : List Byte :=
        [BitVec.ofNat 8 (2 * address.toNat), BitVec.ofNat 8 (register.toNat / 256),
          BitVec.ofNat 8 register.toNat]
      let readByte : Byte := BitVec.ofNat 8 (2 * address.toNat + 1)
      let bits := fun signals : List BusSignal => (signals.map BusSignal.bits).sum
      let writing : Transaction :=
        { address := address, register := register, data := .write bytes, left := left }
      let reading : Transaction :=
        { address := address, register := register, data := .read (count + 1), left := left }
      writing.sent = opening ++ bytes ∧ reading.sent = opening ++ [readByte] ∧
      writing.signals = .start :: (opening ++ bytes).map .sent ++ [.stop] ∧
      reading.signals =
        .start :: opening.map .sent ++ [.repeatedStart, .sent readByte]
          ++ List.replicate count (.received true) ++ [.received false, .stop] ∧
      bits writing.signals = 29 + 9 * bytes.length ∧ bits reading.signals = 39 + 9 * (count + 1) ∧
      (∀ j, 1 ≤ j → j ≤ 3 + bytes.length →
        writing.refusedSignals j = .start :: ((opening ++ bytes).take j).map .sent ++ [.stop] ∧
        bits (writing.refusedSignals j) = 2 + 9 * j) ∧
      (∀ j, 1 ≤ j → j ≤ 3 →
        reading.refusedSignals j = .start :: (opening.take j).map .sent ++ [.stop]) ∧
      reading.refusedSignals 4 =
        .start :: opening.map .sent ++ [.repeatedStart, .sent readByte, .stop])

/-- The end of a write of a setup. Acknowledged, the kind's shadow entry takes its value, and the link goes on to the
next write within 20 µs, or answers complete and is idle; refused, the entry becomes unknown, and the write is
made once more, or at its retry the setup is answered failed and the link is idle; nothing else changes (R118,
R119, R120, R122). The end of a drain: the transaction of an ended setup sets its kind's shadow entry, to its
value or to unknown after a NACK, and that of a direct command, or one that began before a START, sets none; then
the link is idle, or takes up the work that waited (R118, R119, R123, R126). -/
def Obligations.SetupWritesAndDrainsEndInTheShadow : Prop :=
  (∀ (w : SetupWork) (x : RegisterWrite) (rest : List RegisterWrite) (t : Transaction) (position : Nat)
    (s : State),
    s.link.state = .setup w → w.writes = x :: rest → w.bus = some t → s.link.waiting = none →
    let shadowed := fun (v : Option Nat) (l : LinkState) =>
      ({ s with link := { s.link with shadow := s.link.shadow.set x.kind v, state := l } } : State)
    (rest ≠ [] →
      exec (.setupWriteEnd .acknowledged) s =
        .next
          (shadowed (some x.value)
            (.setup { w with writes := rest, retry := false, bus := none, left := 20 }))) ∧
    (rest = [] →
      exec (.setupWriteEnd .acknowledged) s =
        .next (answerSetup w.setup true (shadowed (some x.value) .idle))) ∧
    (w.retry = false →
      exec (.setupWriteEnd (.nack position)) s =
        .next (shadowed none (.setup { w with retry := true, bus := none, left := 20 }))) ∧
    (w.retry = true →
      exec (.setupWriteEnd (.nack position)) s =
        .next (answerSetup w.setup false (shadowed none .idle)))) ∧
  (∀ (w : DrainWork) (answer : BusAnswer) (s : State), s.link.state = .draining w →
    let shadow :=
      match w.records, answer with
      | none, _ => s.link.shadow
      | some (k, v), .acknowledged => s.link.shadow.set k (some v)
      | some (k, _), .nack _ => s.link.shadow.set k none
    let s1 : State :=
      { s with link := { s.link with shadow := shadow, state := .idle, waiting := none } }
    (s.link.waiting = none → exec (.drainEnd answer) s = .next s1) ∧
    (∀ r, s.link.waiting = some (.setup r) → exec (.drainEnd answer) s = .next (handSetup r s1)) ∧
    (∀ c, s.link.waiting = some (.direct c) → exec (.drainEnd answer) s = .next (handDirect c s1)))

/-- SENSOR_READ and SENSOR_WRITE of the claim holder with the engine STOPPED or HALTED: a write sets unknown the
shadow entry of every mapped kind whose registers share an address with those written, a read none; an idle link
begins the transaction at once, and a link that is not idle keeps the command as waiting work, which R124 says of
a draining link and the model of any other too (log entry 14); the answer waits; nothing else changes (R124,
R125). The end of a direct transaction: data received, or a write acknowledged in full, is answered OK; a NACK is
met once by the same transaction again, within 20 µs by the model's reading (log entry 14), and at the second is
answered SENSOR_NACK; an answer reaches a buffer that still waits for it and no other; then the link is idle;
nothing else changes, the shadow least of all (R124, R125, R147). -/
def Obligations.DirectCommandsAreTakenUpAndAnswered : Prop :=
  (∀ (h : HostId) (cmd : Handed) (c : Claim) (s : State), s.engine.claim = some c → c.holder = h →
    s.engine.state = .stopped ∨ s.engine.state = .halted →
    let link := fun (op : DirectOp) (t : TransactionData) (register : BitVec 16)
        (shadow : PerKind (Option Nat)) =>
      match s.link.state with
      | .idle =>
        { s.link with
          shadow := shadow
          state :=
            .direct
              { command := { port := h, serial := cmd.serial, op := op }, retry := false
                bus :=
                  some
                    { address := s.link.description.address, register := register, data := t
                      left := t.time }
                left := 0 } }
      | _ =>
        { s.link with
          shadow := shadow
          waiting := some (.direct { port := h, serial := cmd.serial, op := op }) }
    (∀ register count, Takes s h .sensorRead cmd →
      sensorReadArgs cmd.args = some (.read register count) →
      exec (.sensorRead h) s =
        .next
          { taken s h .sensorRead with
            link := link (.read register count) (.read count) register s.link.shadow }) ∧
    (∀ register bytes, Takes s h .sensorWrite cmd →
      sensorWriteArgs cmd.args = some (.write register bytes) →
      ∃ shadow : PerKind (Option Nat),
        (∀ k,
          let e := s.link.map.get k
          let shared := ∃ a, e.register.toNat ≤ a ∧ a < e.register.toNat + e.count ∧
            register.toNat ≤ a ∧ a < register.toNat + bytes.length
          (shared → shadow.get k = none) ∧ (¬shared → shadow.get k = s.link.shadow.get k)) ∧
        exec (.sensorWrite h) s =
          .next
            { taken s h .sensorWrite with
              link := link (.write register bytes) (.write bytes) register shadow })) ∧
  (∀ (w : DirectWork) (t : Transaction) (position : Nat) (s : State),
    s.link.state = .direct w → w.bus = some t → s.link.waiting = none →
    let p := s.port w.command.port
    let answered := fun (r : Response) =>
      let s1 : State := { s with link := { s.link with state := .idle } }
      if p.buffer = .pending w.command.serial then
        s1.setPort w.command.port { p with buffer := .ready r }
      else s1
    let again : State :=
      { s with
        link := { s.link with state := .direct { w with retry := true, bus := none, left := 20 } } }
    (∀ register bytes, w.command.op = .read register bytes.length →
      exec (.directReadEnd (.data bytes)) s = .next (answered { status := .ok, results := bytes })) ∧
    (∀ register count, w.command.op = .read register count →
      (w.retry = false → exec (.directReadEnd (.nack position)) s = .next again) ∧
      (w.retry = true →
        exec (.directReadEnd (.nack position)) s =
          .next (answered { status := .sensorNack, results := [] }))) ∧
    (∀ register bytes, w.command.op = .write register bytes →
      exec (.directWriteEnd .acknowledged) s = .next (answered { status := .ok, results := [] }) ∧
      (w.retry = false → exec (.directWriteEnd (.nack position)) s = .next again) ∧
      (w.retry = true →
        exec (.directWriteEnd (.nack position)) s =
          .next (answered { status := .sensorNack, results := [] }))))

/-! ### Frame Sequencer and Frame Pass -/

/-- A setup point: the next index after the slot position, going round at the cycle length (slot 0 before slot 0); at
slot 0 the swap, if the builder is READY; then an assigned slot is set up, with the slot's values, the generation
in force and the values of R40 for its step, and handed to the Sensor Link; an idle slot makes no context (R40,
R43, R54, R67, R72, R73). Stated for a slot budget as R168 leaves it. -/
def Obligations.SetupPointsSetUpTheNextSlot : Prop :=
  ∀ s : State, s.link.description.readout + 110 ≤ s.engine.slotPeriod →
    let index :=
      match s.sequencer.position with
      | .slot n => if n + 1 = s.calendar.active.length then 0 else n + 1
      | _ => 0
    let s1 : State := { s with sequencer := { s.sequencer with nextIndex := index, setupDone := true } }
    let s2 :=
      match index, s.calendar.builder with
      | 0, .ready sh => swap sh s1
      | _, _ => s1
    (s2.calendar.active[index]? = some .idle → setupPoint s = s2) ∧
    (∀ profile step subscribers p t,
      s2.calendar.active[index]? = some (.assigned profile step subscribers) →
      s2.profile profile = some p → p.steps[step]? = some t →
      let budget := s.engine.slotPeriod - s.link.description.readout - 100
      let shifted :=
        if 0 ≤ t.shift then p.baseExposure * 2 ^ t.shift.natAbs
        else p.baseExposure / 2 ^ t.shift.natAbs
      let exposure := max 10 (min budget shifted)
      let gain := (max 16 (min 256 ((p.baseGain : Int) + t.offset))).toNat
      setupPoint s =
        handSetup
          { setup := s2.sequencer.nextSetup, exposure := exposure, gain := gain, window := p.window }
          { s2 with
            sequencer :=
              { s2.sequencer with
                nextSetup := s2.sequencer.nextSetup + 1
                next :=
                  some
                    { state := .setup
                      setup := s2.sequencer.nextSetup
                      context :=
                        { slotIndex := index, generation := s2.calendar.generation
                          profile := profile, stepIndex := step, subscribers := subscribers
                          exposure := exposure, gain := gain, window := p.window
                          linkResult := .none, frameNumber := none, triggerTime := none
                          clamped := decide (budget < shifted)
                          tuning :=
                            match p.mode with
                            | .tuning _ => true
                            | _ => false
                          sizeMismatch := false, outcome := none, statistics := none } } } })

/-- A slot start: the slot timer runs on; a frame still in the present-slot place is dropped STALL. While RUNNING the
slot position becomes the next index; an ARMED context is numbered and triggered, its trigger time being the
record clock's reading, which is the model's choice (log entry 13), one whose setup failed is dropped LINK, any
other in SETUP is ended and dropped LATE; a counter that has gone from 2 to 3 hands its fault, SENSOR_STALL
first; else a slot without a triggered frame has its setup point at once (R66, R67, R71, R72, R75, R76, R77,
R82). Before the timer has run out the happening does not fall (log entry 3). -/
def Obligations.SlotStartsTriggerOrDropTheNextFrame : Prop :=
  ∀ s : State,
    (s.sequencer.slotTimer ≠ some 0 → exec .slotStart s = .next s) ∧
    (s.sequencer.slotTimer = some 0 →
      let s1 := dropPresent .stall
        { s with
          sequencer :=
            { s.sequencer with slotTimer := some s.engine.slotPeriod, setupDone := false } }
      let stalled := s.sequencer.stallFailures = 2 ∧ s1.sequencer.stallFailures = 3
      let s2 : State :=
        { s1 with sequencer := { s1.sequencer with position := .slot s1.sequencer.nextIndex } }
      let n := s1.sequencer.frameNumber + 1
      let number := if n = 0 then 1 else n
      (s.sequencer.present = none → s1.sequencer =
        { s.sequencer with slotTimer := some s.engine.slotPeriod, setupDone := false }) ∧
      (s1.engine.state ≠ .running →
        exec .slotStart s = .next (if stalled then halt .sensorStall s1 else s1)) ∧
      (s1.engine.state = .running → s1.sequencer.next = none →
        exec .slotStart s = .next (if stalled then halt .sensorStall s2 else setupPoint s2)) ∧
      (∀ f, s1.engine.state = .running → s1.sequencer.next = some f →
        let context := { f.context with frameNumber := some number }
        let s3 : State :=
          { s2 with sequencer := { s2.sequencer with next := none, frameNumber := number } }
        (f.state = .armed →
          let s4 : State :=
            { s3 with
              sequencer :=
                { s3.sequencer with
                  present :=
                    some
                      { state := .exposing
                        context := { context with triggerTime := some s.delivery.clock } }
                  exposureTimer := some context.exposure
                  trigger := 10 } }
          exec .slotStart s = .next (if stalled then halt .sensorStall s4 else s4)) ∧
        (f.state = .setup → f.context.linkResult ≠ .failed →
          let s4 := closeFrame context (.dropped .late) (endSetup f.setup s3)
          exec .slotStart s = .next (if stalled then halt .sensorStall s4 else setupPoint s4)) ∧
        (f.state = .setup → f.context.linkResult = .failed →
          let s4 := closeFrame context (.dropped .link) s3
          let linked := s1.sequencer.linkFailures = 2 ∧ s4.sequencer.linkFailures = 3
          exec .slotStart s =
            .next
              (if stalled then halt .sensorStall s4
              else if linked then halt .sensorLink s4
              else setupPoint s4))))

/-- A frame dropped from the present-slot place: the place is empty, the exposure timer cancelled, Frame Pass, in
READOUT, idle and its output frame ended, and the context closed with its reason (R76, R80, R83, R108). The
close: the records, then Exposure Control, then the occasions, then the consecutive-failure counters, which hold
at 3; in STOPPING the stop then ends, save at the third STALL: ENGINE_STOPPED, the timers stopped, and STOP
answered OK with 0 in the buffer that still waits for it (R80, R81, R85, R169). -/
def Obligations.ClosesTakeTheirStepsInOrder : Prop :=
  (∀ (reason : DropReason) (s : State),
    (s.sequencer.present = none → dropPresent reason s = s) ∧
    (∀ f, s.sequencer.present = some f →
      let s1 : State :=
        { s with sequencer := { s.sequencer with present := none, exposureTimer := none } }
      (f.state = .exposing → dropPresent reason s = closeFrame f.context (.dropped reason) s1) ∧
      (f.state = .readout →
        dropPresent reason s =
          closeFrame f.context (.dropped reason)
            { s1 with framePass := .idle, videoOut := { frameValid := false, line := [] } }))) ∧
  ∀ (c : FrameContext) (outcome : FrameOutcome) (s : State),
    let closed := { c with outcome := some outcome }
    let s1 := countOccasions closed outcome (judgeFrame closed outcome (composeRecords closed outcome s))
    let raised := fun n : Nat => if n < 3 then n + 1 else 3
    let s2 : State :=
      { s1 with
        sequencer :=
          match outcome with
          | .normal => { s1.sequencer with linkFailures := 0, stallFailures := 0 }
          | .dropped .link =>
            { s1.sequencer with linkFailures := raised s.sequencer.linkFailures }
          | .dropped .stall =>
            { s1.sequencer with stallFailures := raised s.sequencer.stallFailures }
          | _ => s1.sequencer }
    let s3 : State :=
      { s2 with
        ports := postedToAll { kind := .engineStopped, subject := 0, detail := 0 } s2
        sequencer :=
          { s2.sequencer with slotTimer := none, exposureTimer := none, position := .absent }
        engine := { s2.engine with state := .stopped, stopWaiting := none } }
    s1.sequencer = s.sequencer ∧ s1.engine = s.engine ∧ s1.link = s.link ∧
    s1.framePass = s.framePass ∧ s1.videoOut = s.videoOut ∧
    (s.engine.state ≠ .stopping ∨ (outcome = .dropped .stall ∧ s.sequencer.stallFailures = 2) →
      closeFrame c outcome s = s2) ∧
    (s.engine.state = .stopping → outcome ≠ .dropped .stall ∨ s.sequencer.stallFailures ≠ 2 →
      (s.engine.stopWaiting = none → closeFrame c outcome s = s3) ∧
      ∀ h serial, s.engine.stopWaiting = some (h, serial) →
        closeFrame c outcome s =
          if (s3.port h).buffer = .pending serial then
            s3.setPort h { s3.port h with buffer := .ready { status := .ok, results := [0x00] } }
          else s3)

/-- Occasions at a close: none for a DROPPED frame; otherwise each live BURST on the subscriber list counts one at
its profile's last step, and one that reaches its count is done: freed, out of the active calendar, its profile's
reference count lowered, an ORPHANED one that reaches 0 being freed. In subscriber order DONE goes to the owner
of each, and behind it TUNE_ABORTED to the owner of a tune that this leaves without an ACTIVE request (log entry
11), whose profile goes to MANUAL; one trigger if a finished request was ACTIVE and a request is WAITING, tested
and raised once after the last burst, which is the model's reading of R7 (log entry 27); nothing else changes
(R4, R5, R6, R7, R16, R17, R27, R59, R100). Stated for distinct pairs and for tables in the form of R1 and
R27. -/
def Obligations.OccasionsCompleteBursts : Prop :=
  ∀ (c : FrameContext) (s : State), RequestsOk s → ProfilesOk s → CalendarOk s →
    c.subscribers.Nodup →
    (∀ reason, countOccasions c (.dropped reason) s = s) ∧
    (let counted := fun r : Request =>
      c.subscribers.contains { host := r.owner, tag := r.tag } &&
        c.stepIndex + 1 == s.stepCount r.profile
    let finishes := fun r : Request =>
      counted r && match r.kind with
        | .stream => false
        | .burst count done => done + 1 == count
    let t := countOccasions c .normal s
    let leavers := c.subscribers.filterMap fun p =>
      s.requests.table.find? fun r => r.owner == p.host && r.tag == p.tag && finishes r
    let done := fun r : Request => [(r.owner, { kind := .done, subject := r.tag, detail := 0 : Notice })]
    t.requests =
      { s.requests with
        table := (s.requests.table.filter fun r => !finishes r).map fun r =>
          match r.kind with
          | .stream => r
          | .burst count done => if counted r then { r with kind := .burst count (done + 1) } else r } ∧
    t.calendar.active =
      s.calendar.active.map
        (dropPairs fun p =>
          s.requests.table.any fun r => r.named p.host p.tag && finishes r && r.isActive) ∧
    t.calendar.generation = s.calendar.generation ∧
    t.calendar.builder =
      (if (s.requests.table.any fun r => finishes r && r.isActive) ∧
          t.requests.table.any (fun r => r.state == .waiting) then triggered s.calendar.builder t
      else s.calendar.builder) ∧
    (∀ id p, s.profile id = some p →
      let n := s.requests.table.countP fun r => r.profile == id && finishes r
      t.profile id =
        if p.life = .orphaned ∧ p.references = n then none
        else
          some
            { p with
              references := p.references - n, mode := modeLeft t.requests.table leavers id p.mode }) ∧
    (∀ id, s.profile id = none → t.profile id = none) ∧
    t.ports = told (leavingNotices s done [] leavers) s ∧
    t.sequencer = s.sequencer ∧ t.framePass = s.framePass ∧ t.videoOut = s.videoOut ∧
    t.link = s.link ∧ t.delivery = s.delivery ∧ t.engine = s.engine ∧ t.pending = s.pending ∧
    t.resetHeld = s.resetHeld ∧ t.freeIndex = s.freeIndex)

/-- The exposure timer's expiry and a frame start taken by the context in EXPOSING: the timer is absent, the context
in READOUT, Frame Pass takes the frame up with zero accumulators and sends its header line, and while RUNNING the
setup point falls if none has in this slot. A frame start that finds no context in EXPOSING is ignored, save that
Frame Pass stops taking lines; the output frame goes on until the frame end or the drop, which is the model's
choice (log entry 23) (R72, R77, R78, R104, R110). Before the timer has run out its expiry does not fall (log
entry 3). A line in TAKING is forwarded, counted, measured pixel by pixel up to 16,777,216 pixels a frame, and
sets the length fault where its length is not the window width and the pixel count has not reached that limit
when the line begins, which is the model's reading of the limit (log entry 19); past it every accumulator but the
line count keeps its value; in any other state it is neither measured nor forwarded (R103, R105). Of a line cut
short, whether it is counted and whether it sets the length fault are open, whatever the pixels received of it
(log entry 9), and Frame Pass keeps that it was cut. -/
def Obligations.FramesStartAndAreMeasured : Prop :=
  (∀ s : State,
    let due := fun t : State =>
      if s.engine.state = .running ∧ s.sequencer.setupDone = false then setupPoint t else t
    (s.sequencer.exposureTimer = some 0 →
      exec .exposureTimerExpiry s =
        .next (due { s with sequencer := { s.sequencer with exposureTimer := none } })) ∧
    (s.sequencer.exposureTimer ≠ some 0 → exec .exposureTimerExpiry s = .next s) ∧
    (∀ f, s.sequencer.present = some f → f.state = .exposing →
      exec .frameStart s =
        .next
          (due
            { s with
              sequencer :=
                { s.sequencer with
                  present := some { f with state := .readout }, exposureTimer := none }
              framePass :=
                .taking
                  { pixelCount := 0, levelSum := 0, bins := Vector.replicate 8 0, clipCount := 0
                    lineCount := 0, lengthFault := false }
                  (headerBytes f.context) false
              videoOut :=
                { frameValid := true
                  line := headerLine (headerBytes f.context) f.context.window.width } })) ∧
    ((∀ f, s.sequencer.present = some f → f.state = .readout) →
      (∀ a header cut, s.framePass = .taking a header cut →
        exec .frameStart s = .next { s with framePass := .waitingEnd a header cut }) ∧
      ((∀ a header cut, s.framePass ≠ .taking a header cut) → exec .frameStart s = .next s))) ∧
  (∀ (pixels : List Pixel) (s : State),
    ((∀ a header last, s.framePass ≠ .taking a header last) →
      ∀ cut, exec (.videoLine pixels cut) s = .next s) ∧
    (∀ a header last f, s.framePass = .taking a header last → s.sequencer.present = some f →
      let measured := pixels.take (16777216 - a.pixelCount)
      let after := fun cut counted faults : Bool =>
        { s with
          framePass :=
            .taking
              { pixelCount := a.pixelCount + measured.length
                levelSum := a.levelSum + (measured.map BitVec.toNat).sum
                bins := Vector.ofFn fun i : Fin 8 =>
                  a.bins[i] + measured.countP fun x => x.toNat / 128 == i.val
                clipCount := a.clipCount + measured.countP fun x => x == 1023
                lineCount :=
                  if counted then (if a.lineCount < 65535 then a.lineCount + 1 else 65535)
                  else a.lineCount
                lengthFault :=
                  a.lengthFault ||
                    (faults && decide (a.pixelCount < 16777216)) }
              header cut
          videoOut := { s.videoOut with line := pixels } }
      exec (.videoLine pixels false) s =
        .next (after false true (pixels.length != f.context.window.width)) ∧
      ∃ counted faults,
        exec (.videoLine pixels true) s =
          .next { after true counted faults with freeIndex := s.freeIndex + 1 }))

/-- A frame end taken by the context in READOUT: the mean, the eight shares and the clip share in 1/1024, rounded
down and 0 without a pixel, and SIZE_MISMATCH where the line count is not the window height, the length fault is
set, or a stray frame start has cut the frame short within a line, whatever the free values of that line (log
entry 9), go to the context; Frame Pass is idle, the output frame ends, the present-slot place is empty, and the
context is closed normally. Any other frame end is ignored (R79, R106, R107, R108). -/
def Obligations.FrameEndsCloseNormally : Prop :=
  ∀ s : State,
    ((∀ f, s.sequencer.present = some f → f.state = .exposing) → exec .frameEnd s = .next s) ∧
    (∀ f a header cut, s.sequencer.present = some f → f.state = .readout →
      s.framePass = .taking a header cut ∨ s.framePass = .waitingEnd a header cut →
      let share := fun n : Nat => if a.pixelCount = 0 then 0 else n * 1024 / a.pixelCount
      exec .frameEnd s =
        .next
          (closeFrame
            { f.context with
              statistics :=
                some
                  { mean := if a.pixelCount = 0 then 0 else a.levelSum / a.pixelCount
                    histogram := Vector.ofFn fun i : Fin 8 => share a.bins[i]
                    clipShare := share a.clipCount }
              sizeMismatch :=
                a.lengthFault || a.lineCount != f.context.window.height ||
                  (cut && s.framePass == .waitingEnd a header cut) }
            .normal
            { s with
              sequencer := { s.sequencer with present := none, exposureTimer := none }
              framePass := .idle
              videoOut := { frameValid := false, line := [] } }))

/-- The header line: 64 bytes, one in the low 8 bits of each of its first 64 pixels, zeros to the window width; the
fields of Table 6-3, and the CRC of the first 62 bytes, upper byte first, so that the CRC taken over all 64 is 0
(R110, R111, R112). -/
def Obligations.HeaderLinesCarryTheFrameAndItsCrc : Prop :=
  (∀ c : FrameContext, c.subscribers.length ≤ 4 →
    let served := fun h => if c.subscribers.any fun p => p.host == h then 1 else 0
    let body : List Byte :=
      [0x5A, 0xC3] ++ beBytes 4 (c.frameNumber.getD 0).toNat ++ beBytes 2 c.generation.toNat
        ++ [BitVec.ofNat 8 c.slotIndex, BitVec.ofNat 8 c.profile.val, BitVec.ofNat 8 c.stepIndex,
          BitVec.ofNat 8 (served .h0 + 2 * served .h1 + 4 * served .h2 + 8 * served .h3)]
        ++ beBytes 4 c.exposure ++ beBytes 2 c.gain ++ beBytes 2 c.window.x ++ beBytes 2 c.window.y
        ++ beBytes 2 c.window.width ++ beBytes 2 c.window.height
        ++ c.subscribers.flatMap (fun p => [BitVec.ofNat 8 p.host.number, BitVec.ofNat 8 p.tag])
        ++ List.replicate (8 - 2 * c.subscribers.length) 0x00
        ++ [BitVec.ofNat 8 ((if c.clamped then 1 else 0) + (if c.tuning then 2 else 0))]
        ++ List.replicate 27 0x00
    body.length = 62 ∧ headerBytes c = body ++ beBytes 2 (crc body).toNat ∧
    crc (headerBytes c) = 0) ∧
  (∀ (header : List Byte) (width : Nat), header.length = 64 → 64 ≤ width →
    (headerLine header width).length = width ∧
    ∀ i < width, (headerLine header width)[i]? =
      some (match header[i]? with
        | some b => BitVec.setWidth 10 b
        | none => 0)) ∧
  crc [0x31, 0x32, 0x33, 0x34, 0x35, 0x36, 0x37, 0x38, 0x39] = 0x29B1 ∧ crc [] = 0xFFFF ∧
  (∀ (bytes : List Byte) (b : Byte), crc (bytes ++ [b]) =
    (List.range 8).foldl
      (fun r _ => if r.msb then (r <<< 1) ^^^ 0x1021 else r <<< 1)
      (crc bytes ^^^ (BitVec.setWidth 16 b <<< 8))) ∧
  ∀ bytes : List Byte, crc (bytes ++ beBytes 2 (crc bytes).toNat) = 0

/-! ### Forms that every step keeps -/

/-- Every step keeps the form of the notice queues (R154), that of the record queues (R128, R130), and their strictly
increasing frame-number order, with the number of the frame in flight above every queued one (R71, R130), each by
itself. The order is stated for queues in which no record has been left until the numbering has come some half
way round to it again, which the comparison of R130 through the wrap presumes. -/
def Obligations.StepsKeepTheQueues : Prop :=
  ∀ s t : State, step s = .next t →
    (NoticeQueuesOk s → NoticeQueuesOk t) ∧ (RecordQueuesOk s → RecordQueuesOk t) ∧
    (RecordsRecent s → RecordOrderOk s → RecordOrderOk t)

/-- Every step keeps the agreement of the engine state, its timers, its two places, Frame Pass, the waiting STOP and
the fault code (R66, R67, R70, R81, R84, R85, R103, R167, R169), and the claim with an attached host or one whose
detach is under way (R161), each by itself. -/
def Obligations.StepsKeepTheEngineInOrder : Prop :=
  ∀ s t : State, step s = .next t → (EngineOk s → EngineOk t) ∧ (ClaimOk s → ClaimOk t)

/-- Every step keeps the request table: at most 32 live requests, distinct names and admission sequences, every field
in its range, no live BURST at its count (R1, R2, R4). Every step keeps every profile in TUNING with an ACTIVE
request on it (R87, R90, R100). -/
def Obligations.StepsKeepRequestsAndTunes : Prop :=
  (∀ s t : State, step s = .next t → RequestsOk s → RequestsOk t) ∧
  (∀ s t : State, step s = .next t → RequestsOk s → TunesInUse s → TunesInUse t)

/-- Every step keeps every calendar as long as a cycle length and without an assigned slot that serves nobody (R42,
R46, R47). -/
def Obligations.StepsKeepTheCalendar : Prop :=
  ∀ s t : State, step s = .next t → CalendarOk s → CalendarOk t

/-- Every step keeps the tables in agreement: each port's buffer, commands and answers, the request table, the
reference counts and periods of the profiles, and that a host whose detach has taken its steps holds no request,
no LIVE profile, no record and no claim (R1, R8, R26, R27, R37, R39, R145, R147, R149, R152; serial numbers: log
entry 10). -/
def Obligations.StepsKeepTheTablesInAgreement : Prop :=
  ∀ s t : State, step s = .next t → TablesOk s → TablesOk t

/-- Every step keeps the quotas: together at most 32 requests and 16 profiles, and no host with more live requests or
LIVE profiles than its own (R8, R23, R29, R166). -/
def Obligations.StepsKeepTheQuotas : Prop :=
  ∀ s t : State, step s = .next t → QuotasOk s → QuotasOk t

/-- The part after reset has every form that its steps keep (R160). -/
def Obligations.ResetHasEveryForm : Prop :=
  NoticeQueuesOk State.reset ∧ RecordQueuesOk State.reset ∧ RecordOrderOk State.reset ∧ EngineOk State.reset ∧
  ClaimOk State.reset ∧ RequestsOk State.reset ∧ TunesInUse State.reset ∧
  CalendarOk State.reset ∧ TablesOk State.reset ∧ QuotasOk State.reset

end Statements
end

