-- ==== Sys2Proof/Laws/Bus.lean ====
section
/-! SUPPORT. What the Sensor Link does on the I2C bus, each function said once (R121, R122, R124). -/

namespace Sys2Proof.Machine

theorem receivedSignals_succ (n : Nat) :
    receivedSignals (n + 1) = List.replicate n (.received true) ++ [.received false] := by
  induction n with
  | zero => rfl
  | succ n ih => rw [receivedSignals, ih, List.replicate_succ, List.cons_append]

@[simp] theorem sentByte_sent (b : Byte) : (BusSignal.sent b).sentByte = some b := rfl

/-- The bytes sent among signals that go on with a byte sent. -/
@[simp] theorem sentBytes_cons_sent (b : Byte) (rest : List BusSignal) :
    (BusSignal.sent b :: rest).filterMap BusSignal.sentByte = b :: rest.filterMap BusSignal.sentByte :=
  rfl

/-- No byte is sent by a condition or a byte received. -/
theorem sentBytes_cons_other {x : BusSignal} (none : x.sentByte = none) (rest : List BusSignal) :
    (x :: rest).filterMap BusSignal.sentByte = rest.filterMap BusSignal.sentByte :=
  List.filterMap_cons_none none

@[simp] theorem sentBytes_comp_sent (bytes : List Byte) :
    bytes.filterMap (BusSignal.sentByte ∘ BusSignal.sent) = bytes := by
  induction bytes with
  | nil => rfl
  | cons b bytes ih => exact congrArg (b :: ·) ih

theorem sentBytes_map_sent (bytes : List Byte) :
    (bytes.map BusSignal.sent).filterMap BusSignal.sentByte = bytes := by
  rw [List.filterMap_map, sentBytes_comp_sent]

@[simp] theorem sentBytes_received (n : Nat) :
    (receivedSignals n).filterMap BusSignal.sentByte = [] := by
  match n with
  | 0 => rfl
  | 1 => rfl
  | n + 2 => exact (sentBytes_cons_other rfl _).trans (sentBytes_received (n + 1))

@[simp] theorem bits_comp_sent (bytes : List Byte) :
    (bytes.map (BusSignal.bits ∘ BusSignal.sent)).sum = 9 * bytes.length := by
  induction bytes with
  | nil => rfl
  | cons b bytes ih => rw [List.map_cons, List.sum_cons, ih, List.length_cons, Nat.mul_succ, Nat.add_comm]; rfl

theorem bits_map_sent (bytes : List Byte) :
    ((bytes.map BusSignal.sent).map BusSignal.bits).sum = 9 * bytes.length := by
  rw [List.map_map, bits_comp_sent]

@[simp] theorem bits_received (n : Nat) :
    ((receivedSignals n).map BusSignal.bits).sum = 9 * n := by
  match n with
  | 0 => rfl
  | 1 => rfl
  | n + 2 =>
    rw [receivedSignals, List.map_cons, List.sum_cons, bits_received (n + 1)]
    simp only [BusSignal.bits]
    omega

@[simp] theorem refusedAt_zero (signals : List BusSignal) : refusedAt signals 0 = [.stop] := by
  cases signals <;> rfl

/-- A refusal among bytes sent one after another: those up to its position, then the stop. -/
theorem refusedAt_map_sent (bytes : List Byte) (rest : List BusSignal) (n : Nat)
    (le : n ≤ bytes.length) :
    refusedAt (bytes.map .sent ++ rest) n = (bytes.take n).map .sent ++ [.stop] := by
  induction bytes generalizing n with
  | nil => obtain rfl : n = 0 := by simpa using le
           simp
  | cons b bytes ih =>
    cases n with
    | zero => simp
    | succ n => simp [refusedAt, ih n (by simpa using le)]

end Sys2Proof.Machine
end

