-- ==== Sys2Proof/Laws/State.lean ====
section
/-! SUPPORT. The small lemmas of State: what each accessor reads after each named update. -/

namespace Sys2Proof.Machine

/-! ### Values held for the hosts and for the parameter kinds -/

section PerHost

variable {α : Type} (v : PerHost α) (h g : HostId) (a b : α)

@[simp] theorem PerHost.get_set_self : (v.set h a).get h = a := by cases h <;> rfl

theorem PerHost.get_set_ne (ne : g ≠ h) : (v.set h a).get g = v.get g := by
  cases h <;> cases g <;> first | rfl | exact absurd rfl ne

theorem PerHost.get_set : (v.set h a).get g = if g = h then a else v.get g := by
  cases h <;> cases g <;> rfl

@[simp] theorem PerHost.set_set : (v.set h a).set h b = v.set h b := by cases h <;> rfl

@[simp] theorem PerHost.set_get_self : v.set h (v.get h) = v := by cases h <;> rfl

theorem PerHost.ext_get {v w : PerHost α} (same : ∀ h, v.get h = w.get h) : v = w := by
  cases v
  cases w
  simp only [PerHost.mk.injEq]
  exact ⟨same .h0, same .h1, same .h2, same .h3⟩

end PerHost

section PerKind

variable {α : Type} (v : PerKind α) (k j : ParamKind) (a : α)

@[simp] theorem PerKind.get_set_self : (v.set k a).get k = a := by cases k <;> rfl

theorem PerKind.get_set : (v.set k a).get j = if j = k then a else v.get j := by
  cases k <;> cases j <;> rfl

@[simp] theorem PerKind.set_get_self : v.set k (v.get k) = v := by cases k <;> rfl

theorem PerKind.ext_get {v w : PerKind α} (same : ∀ k, v.get k = w.get k) : v = w := by
  cases v
  cases w
  simp only [PerKind.mk.injEq]
  exact ⟨same .exposure, same .gain, same .cropX, same .cropY, same .cropW, same .cropH⟩

end PerKind

theorem mem_allHosts (h : HostId) : h ∈ allHosts := by cases h <;> decide

theorem mem_allProfileIds (id : Fin 16) : id ∈ allProfileIds := List.mem_finRange id

/-! ### The fields after each named update -/

section Updates

variable (s : State)

@[simp] theorem State.setPort_pending (h : HostId) (p : Port) : (s.setPort h p).pending = s.pending := rfl
@[simp] theorem State.setPort_requests (h : HostId) (p : Port) : (s.setPort h p).requests = s.requests := rfl
@[simp] theorem State.setPort_profiles (h : HostId) (p : Port) : (s.setPort h p).profiles = s.profiles := rfl
@[simp] theorem State.setPort_calendar (h : HostId) (p : Port) : (s.setPort h p).calendar = s.calendar := rfl
@[simp] theorem State.setPort_sequencer (h : HostId) (p : Port) : (s.setPort h p).sequencer = s.sequencer := rfl
@[simp] theorem State.setPort_framePass (h : HostId) (p : Port) : (s.setPort h p).framePass = s.framePass := rfl
@[simp] theorem State.setPort_videoOut (h : HostId) (p : Port) : (s.setPort h p).videoOut = s.videoOut := rfl
@[simp] theorem State.setPort_link (h : HostId) (p : Port) : (s.setPort h p).link = s.link := rfl
@[simp] theorem State.setPort_delivery (h : HostId) (p : Port) : (s.setPort h p).delivery = s.delivery := rfl
@[simp] theorem State.setPort_engine (h : HostId) (p : Port) : (s.setPort h p).engine = s.engine := rfl
@[simp] theorem State.setPort_resetHeld (h : HostId) (p : Port) : (s.setPort h p).resetHeld = s.resetHeld := rfl
@[simp] theorem State.setPort_freeIndex (h : HostId) (p : Port) : (s.setPort h p).freeIndex = s.freeIndex := rfl

@[simp] theorem State.setMailbox_pending (h : HostId) (m : Mailbox) : (s.setMailbox h m).pending = s.pending := rfl
@[simp] theorem State.setMailbox_ports (h : HostId) (m : Mailbox) : (s.setMailbox h m).ports = s.ports := rfl
@[simp] theorem State.setMailbox_requests (h : HostId) (m : Mailbox) : (s.setMailbox h m).requests = s.requests := rfl
@[simp] theorem State.setMailbox_profiles (h : HostId) (m : Mailbox) : (s.setMailbox h m).profiles = s.profiles := rfl
@[simp] theorem State.setMailbox_calendar (h : HostId) (m : Mailbox) : (s.setMailbox h m).calendar = s.calendar := rfl
@[simp] theorem State.setMailbox_sequencer (h : HostId) (m : Mailbox) : (s.setMailbox h m).sequencer = s.sequencer := rfl
@[simp] theorem State.setMailbox_framePass (h : HostId) (m : Mailbox) : (s.setMailbox h m).framePass = s.framePass := rfl
@[simp] theorem State.setMailbox_videoOut (h : HostId) (m : Mailbox) : (s.setMailbox h m).videoOut = s.videoOut := rfl
@[simp] theorem State.setMailbox_link (h : HostId) (m : Mailbox) : (s.setMailbox h m).link = s.link := rfl
@[simp] theorem State.setMailbox_engine (h : HostId) (m : Mailbox) : (s.setMailbox h m).engine = s.engine := rfl
@[simp] theorem State.setMailbox_resetHeld (h : HostId) (m : Mailbox) : (s.setMailbox h m).resetHeld = s.resetHeld := rfl
@[simp] theorem State.setMailbox_freeIndex (h : HostId) (m : Mailbox) : (s.setMailbox h m).freeIndex = s.freeIndex := rfl

@[simp] theorem State.setProfile_pending (id : Fin 16) (p : Option Profile) : (s.setProfile id p).pending = s.pending := rfl
@[simp] theorem State.setProfile_ports (id : Fin 16) (p : Option Profile) : (s.setProfile id p).ports = s.ports := rfl
@[simp] theorem State.setProfile_requests (id : Fin 16) (p : Option Profile) : (s.setProfile id p).requests = s.requests := rfl
@[simp] theorem State.setProfile_calendar (id : Fin 16) (p : Option Profile) : (s.setProfile id p).calendar = s.calendar := rfl
@[simp] theorem State.setProfile_sequencer (id : Fin 16) (p : Option Profile) : (s.setProfile id p).sequencer = s.sequencer := rfl
@[simp] theorem State.setProfile_framePass (id : Fin 16) (p : Option Profile) : (s.setProfile id p).framePass = s.framePass := rfl
@[simp] theorem State.setProfile_videoOut (id : Fin 16) (p : Option Profile) : (s.setProfile id p).videoOut = s.videoOut := rfl
@[simp] theorem State.setProfile_link (id : Fin 16) (p : Option Profile) : (s.setProfile id p).link = s.link := rfl
@[simp] theorem State.setProfile_delivery (id : Fin 16) (p : Option Profile) : (s.setProfile id p).delivery = s.delivery := rfl
@[simp] theorem State.setProfile_engine (id : Fin 16) (p : Option Profile) : (s.setProfile id p).engine = s.engine := rfl
@[simp] theorem State.setProfile_resetHeld (id : Fin 16) (p : Option Profile) : (s.setProfile id p).resetHeld = s.resetHeld := rfl
@[simp] theorem State.setProfile_freeIndex (id : Fin 16) (p : Option Profile) : (s.setProfile id p).freeIndex = s.freeIndex := rfl

@[simp] theorem State.setNext_pending (f : Option NextFrame) : (s.setNext f).pending = s.pending := rfl
@[simp] theorem State.setNext_ports (f : Option NextFrame) : (s.setNext f).ports = s.ports := rfl
@[simp] theorem State.setNext_requests (f : Option NextFrame) : (s.setNext f).requests = s.requests := rfl
@[simp] theorem State.setNext_profiles (f : Option NextFrame) : (s.setNext f).profiles = s.profiles := rfl
@[simp] theorem State.setNext_calendar (f : Option NextFrame) : (s.setNext f).calendar = s.calendar := rfl
@[simp] theorem State.setNext_framePass (f : Option NextFrame) : (s.setNext f).framePass = s.framePass := rfl
@[simp] theorem State.setNext_videoOut (f : Option NextFrame) : (s.setNext f).videoOut = s.videoOut := rfl
@[simp] theorem State.setNext_link (f : Option NextFrame) : (s.setNext f).link = s.link := rfl
@[simp] theorem State.setNext_delivery (f : Option NextFrame) : (s.setNext f).delivery = s.delivery := rfl
@[simp] theorem State.setNext_engine (f : Option NextFrame) : (s.setNext f).engine = s.engine := rfl
@[simp] theorem State.setNext_resetHeld (f : Option NextFrame) : (s.setNext f).resetHeld = s.resetHeld := rfl
@[simp] theorem State.setNext_freeIndex (f : Option NextFrame) : (s.setNext f).freeIndex = s.freeIndex := rfl

@[simp] theorem State.setLinkState_pending (l : LinkState) : (s.setLinkState l).pending = s.pending := rfl
@[simp] theorem State.setLinkState_ports (l : LinkState) : (s.setLinkState l).ports = s.ports := rfl
@[simp] theorem State.setLinkState_requests (l : LinkState) : (s.setLinkState l).requests = s.requests := rfl
@[simp] theorem State.setLinkState_profiles (l : LinkState) : (s.setLinkState l).profiles = s.profiles := rfl
@[simp] theorem State.setLinkState_calendar (l : LinkState) : (s.setLinkState l).calendar = s.calendar := rfl
@[simp] theorem State.setLinkState_sequencer (l : LinkState) : (s.setLinkState l).sequencer = s.sequencer := rfl
@[simp] theorem State.setLinkState_framePass (l : LinkState) : (s.setLinkState l).framePass = s.framePass := rfl
@[simp] theorem State.setLinkState_videoOut (l : LinkState) : (s.setLinkState l).videoOut = s.videoOut := rfl
@[simp] theorem State.setLinkState_delivery (l : LinkState) : (s.setLinkState l).delivery = s.delivery := rfl
@[simp] theorem State.setLinkState_engine (l : LinkState) : (s.setLinkState l).engine = s.engine := rfl
@[simp] theorem State.setLinkState_resetHeld (l : LinkState) : (s.setLinkState l).resetHeld = s.resetHeld := rfl
@[simp] theorem State.setLinkState_freeIndex (l : LinkState) : (s.setLinkState l).freeIndex = s.freeIndex := rfl

@[simp] theorem State.setTable_pending (table : List Request) : (s.setTable table).pending = s.pending := rfl
@[simp] theorem State.setTable_ports (table : List Request) : (s.setTable table).ports = s.ports := rfl
@[simp] theorem State.setTable_profiles (table : List Request) : (s.setTable table).profiles = s.profiles := rfl
@[simp] theorem State.setTable_calendar (table : List Request) : (s.setTable table).calendar = s.calendar := rfl
@[simp] theorem State.setTable_sequencer (table : List Request) : (s.setTable table).sequencer = s.sequencer := rfl
@[simp] theorem State.setTable_framePass (table : List Request) : (s.setTable table).framePass = s.framePass := rfl
@[simp] theorem State.setTable_videoOut (table : List Request) : (s.setTable table).videoOut = s.videoOut := rfl
@[simp] theorem State.setTable_link (table : List Request) : (s.setTable table).link = s.link := rfl
@[simp] theorem State.setTable_delivery (table : List Request) : (s.setTable table).delivery = s.delivery := rfl
@[simp] theorem State.setTable_engine (table : List Request) : (s.setTable table).engine = s.engine := rfl
@[simp] theorem State.setTable_resetHeld (table : List Request) : (s.setTable table).resetHeld = s.resetHeld := rfl
@[simp] theorem State.setTable_freeIndex (table : List Request) : (s.setTable table).freeIndex = s.freeIndex := rfl

/-! ### The accessors after each named update -/

@[simp] theorem State.setPort_port_self (h : HostId) (p : Port) : (s.setPort h p).port h = p :=
  PerHost.get_set_self ..

theorem State.setPort_port (h g : HostId) (p : Port) :
    (s.setPort h p).port g = if g = h then p else s.port g := PerHost.get_set ..

theorem State.setPort_port_ne {h g : HostId} (p : Port) (ne : g ≠ h) :
    (s.setPort h p).port g = s.port g := PerHost.get_set_ne _ _ _ _ ne

@[simp] theorem State.setPort_setPort (h : HostId) (p q : Port) :
    (s.setPort h p).setPort h q = s.setPort h q := by simp [State.setPort]

@[simp] theorem State.setPort_self (h : HostId) : s.setPort h (s.port h) = s := by
  simp [State.setPort, State.port]

@[simp] theorem State.setMailbox_mailbox_self (h : HostId) (m : Mailbox) :
    (s.setMailbox h m).mailbox h = m := PerHost.get_set_self ..

theorem State.setMailbox_mailbox (h g : HostId) (m : Mailbox) :
    (s.setMailbox h m).mailbox g = if g = h then m else s.mailbox g := PerHost.get_set ..

@[simp] theorem State.setMailbox_setMailbox (h : HostId) (m n : Mailbox) :
    (s.setMailbox h m).setMailbox h n = s.setMailbox h n := by simp [State.setMailbox]

@[simp] theorem State.setMailbox_clock (h : HostId) (m : Mailbox) :
    (s.setMailbox h m).delivery.clock = s.delivery.clock := rfl

@[simp] theorem State.setProfile_profile_self (id : Fin 16) (p : Option Profile) :
    (s.setProfile id p).profile id = p := by simp [State.setProfile, State.profile]

theorem State.setProfile_profile (id j : Fin 16) (p : Option Profile) :
    (s.setProfile id p).profile j = if j = id then p else s.profile j := by
  by_cases e : j = id
  · subst e
    simp
  · have ne : (id : Nat) ≠ (j : Nat) := fun h => e (Fin.ext h.symm)
    simp [State.setProfile, State.profile, e, ne]

@[simp] theorem State.setNext_next (f : Option NextFrame) : (s.setNext f).sequencer.next = f := rfl

@[simp] theorem State.setLinkState_state (l : LinkState) : (s.setLinkState l).link.state = l := rfl

@[simp] theorem State.setTable_table (table : List Request) :
    (s.setTable table).requests.table = table := rfl

@[simp] theorem State.setTable_counter (table : List Request) :
    (s.setTable table).requests.counter = s.requests.counter := rfl

@[simp] theorem State.setPort_mailbox (h : HostId) (p : Port) (g : HostId) :
    (s.setPort h p).mailbox g = s.mailbox g := rfl
@[simp] theorem State.setPort_profile (h : HostId) (p : Port) (j : Fin 16) :
    (s.setPort h p).profile j = s.profile j := rfl
@[simp] theorem State.setPort_request (h : HostId) (p : Port) (g : HostId) (tag : Nat) :
    (s.setPort h p).request g tag = s.request g tag := rfl
@[simp] theorem State.setPort_requestsOf (h : HostId) (p : Port) (g : HostId) :
    (s.setPort h p).requestsOf g = s.requestsOf g := rfl
@[simp] theorem State.setPort_hasActiveUser (h : HostId) (p : Port) (j : Fin 16) :
    (s.setPort h p).hasActiveUser j = s.hasActiveUser j := rfl
@[simp] theorem State.setPort_stepCount (h : HostId) (p : Port) (j : Fin 16) :
    (s.setPort h p).stepCount j = s.stepCount j := rfl
@[simp] theorem State.setPort_profilesOwned (h : HostId) (p : Port) (g : HostId) :
    (s.setPort h p).profilesOwned g = s.profilesOwned g := rfl
@[simp] theorem State.setPort_holdsClaim (h : HostId) (p : Port) (g : HostId) :
    (s.setPort h p).holdsClaim g = s.holdsClaim g := rfl
@[simp] theorem State.setPort_anyWaiting (h : HostId) (p : Port) :
    (s.setPort h p).anyWaiting = s.anyWaiting := rfl

@[simp] theorem State.setMailbox_port (h : HostId) (m : Mailbox) (g : HostId) :
    (s.setMailbox h m).port g = s.port g := rfl
@[simp] theorem State.setMailbox_profile (h : HostId) (m : Mailbox) (j : Fin 16) :
    (s.setMailbox h m).profile j = s.profile j := rfl
@[simp] theorem State.setMailbox_request (h : HostId) (m : Mailbox) (g : HostId) (tag : Nat) :
    (s.setMailbox h m).request g tag = s.request g tag := rfl
@[simp] theorem State.setMailbox_requestsOf (h : HostId) (m : Mailbox) (g : HostId) :
    (s.setMailbox h m).requestsOf g = s.requestsOf g := rfl
@[simp] theorem State.setMailbox_hasActiveUser (h : HostId) (m : Mailbox) (j : Fin 16) :
    (s.setMailbox h m).hasActiveUser j = s.hasActiveUser j := rfl
@[simp] theorem State.setMailbox_stepCount (h : HostId) (m : Mailbox) (j : Fin 16) :
    (s.setMailbox h m).stepCount j = s.stepCount j := rfl
@[simp] theorem State.setMailbox_profilesOwned (h : HostId) (m : Mailbox) (g : HostId) :
    (s.setMailbox h m).profilesOwned g = s.profilesOwned g := rfl
@[simp] theorem State.setMailbox_holdsClaim (h : HostId) (m : Mailbox) (g : HostId) :
    (s.setMailbox h m).holdsClaim g = s.holdsClaim g := rfl
@[simp] theorem State.setMailbox_anyWaiting (h : HostId) (m : Mailbox) :
    (s.setMailbox h m).anyWaiting = s.anyWaiting := rfl

@[simp] theorem State.setProfile_port (id : Fin 16) (p : Option Profile) (g : HostId) :
    (s.setProfile id p).port g = s.port g := rfl
@[simp] theorem State.setProfile_mailbox (id : Fin 16) (p : Option Profile) (g : HostId) :
    (s.setProfile id p).mailbox g = s.mailbox g := rfl
@[simp] theorem State.setProfile_request (id : Fin 16) (p : Option Profile) (g : HostId) (tag : Nat) :
    (s.setProfile id p).request g tag = s.request g tag := rfl
@[simp] theorem State.setProfile_requestsOf (id : Fin 16) (p : Option Profile) (g : HostId) :
    (s.setProfile id p).requestsOf g = s.requestsOf g := rfl
@[simp] theorem State.setProfile_hasActiveUser (id : Fin 16) (p : Option Profile) (j : Fin 16) :
    (s.setProfile id p).hasActiveUser j = s.hasActiveUser j := rfl
@[simp] theorem State.setProfile_holdsClaim (id : Fin 16) (p : Option Profile) (g : HostId) :
    (s.setProfile id p).holdsClaim g = s.holdsClaim g := rfl
@[simp] theorem State.setProfile_anyWaiting (id : Fin 16) (p : Option Profile) :
    (s.setProfile id p).anyWaiting = s.anyWaiting := rfl

@[simp] theorem State.setNext_port (f : Option NextFrame) (g : HostId) :
    (s.setNext f).port g = s.port g := rfl
@[simp] theorem State.setNext_mailbox (f : Option NextFrame) (g : HostId) :
    (s.setNext f).mailbox g = s.mailbox g := rfl
@[simp] theorem State.setNext_profile (f : Option NextFrame) (j : Fin 16) :
    (s.setNext f).profile j = s.profile j := rfl
@[simp] theorem State.setNext_request (f : Option NextFrame) (g : HostId) (tag : Nat) :
    (s.setNext f).request g tag = s.request g tag := rfl
@[simp] theorem State.setNext_requestsOf (f : Option NextFrame) (g : HostId) :
    (s.setNext f).requestsOf g = s.requestsOf g := rfl
@[simp] theorem State.setNext_hasActiveUser (f : Option NextFrame) (j : Fin 16) :
    (s.setNext f).hasActiveUser j = s.hasActiveUser j := rfl
@[simp] theorem State.setNext_stepCount (f : Option NextFrame) (j : Fin 16) :
    (s.setNext f).stepCount j = s.stepCount j := rfl
@[simp] theorem State.setNext_profilesOwned (f : Option NextFrame) (g : HostId) :
    (s.setNext f).profilesOwned g = s.profilesOwned g := rfl
@[simp] theorem State.setNext_holdsClaim (f : Option NextFrame) (g : HostId) :
    (s.setNext f).holdsClaim g = s.holdsClaim g := rfl
@[simp] theorem State.setNext_anyWaiting (f : Option NextFrame) :
    (s.setNext f).anyWaiting = s.anyWaiting := rfl

@[simp] theorem State.setLinkState_port (l : LinkState) (g : HostId) :
    (s.setLinkState l).port g = s.port g := rfl
@[simp] theorem State.setLinkState_mailbox (l : LinkState) (g : HostId) :
    (s.setLinkState l).mailbox g = s.mailbox g := rfl
@[simp] theorem State.setLinkState_profile (l : LinkState) (j : Fin 16) :
    (s.setLinkState l).profile j = s.profile j := rfl
@[simp] theorem State.setLinkState_request (l : LinkState) (g : HostId) (tag : Nat) :
    (s.setLinkState l).request g tag = s.request g tag := rfl
@[simp] theorem State.setLinkState_requestsOf (l : LinkState) (g : HostId) :
    (s.setLinkState l).requestsOf g = s.requestsOf g := rfl
@[simp] theorem State.setLinkState_hasActiveUser (l : LinkState) (j : Fin 16) :
    (s.setLinkState l).hasActiveUser j = s.hasActiveUser j := rfl
@[simp] theorem State.setLinkState_stepCount (l : LinkState) (j : Fin 16) :
    (s.setLinkState l).stepCount j = s.stepCount j := rfl
@[simp] theorem State.setLinkState_profilesOwned (l : LinkState) (g : HostId) :
    (s.setLinkState l).profilesOwned g = s.profilesOwned g := rfl
@[simp] theorem State.setLinkState_holdsClaim (l : LinkState) (g : HostId) :
    (s.setLinkState l).holdsClaim g = s.holdsClaim g := rfl
@[simp] theorem State.setLinkState_anyWaiting (l : LinkState) :
    (s.setLinkState l).anyWaiting = s.anyWaiting := rfl

@[simp] theorem State.setTable_port (table : List Request) (g : HostId) :
    (s.setTable table).port g = s.port g := rfl
@[simp] theorem State.setTable_mailbox (table : List Request) (g : HostId) :
    (s.setTable table).mailbox g = s.mailbox g := rfl
@[simp] theorem State.setTable_profile (table : List Request) (j : Fin 16) :
    (s.setTable table).profile j = s.profile j := rfl
@[simp] theorem State.setTable_stepCount (table : List Request) (j : Fin 16) :
    (s.setTable table).stepCount j = s.stepCount j := rfl
@[simp] theorem State.setTable_profilesOwned (table : List Request) (g : HostId) :
    (s.setTable table).profilesOwned g = s.profilesOwned g := rfl
@[simp] theorem State.setTable_holdsClaim (table : List Request) (g : HostId) :
    (s.setTable table).holdsClaim g = s.holdsClaim g := rfl

end Updates

end Sys2Proof.Machine
end

