-- ==== Sys2Proof/Laws/Commands.lean ====
section
/-! SUPPORT. What taking a command, answering it and posting a notice can do, each said once. -/

namespace Sys2Proof.Machine

open Sys2Proof.Safety

/-! ### Taking a command and answering it -/

/-- What the taking of a command leaves: the state its owner leaves, with the answer, if there is one, on its
way. -/
def Reply.finish (h : HostId) (cmd : Handed) (r : Reply) : State :=
  match r.answer with
  | some a => sendAnswer h cmd.serial cmd.left a r.state
  | none => r.state

theorem takeCommand_none {c : CommandCode} {h : HostId} {s : State}
    (none : (s.port h).waitingCommand c = none) (run : Handed → State → Reply) :
    takeCommand c h run s = s := by simp [takeCommand, none]

theorem takeCommand_some {c : CommandCode} {h : HostId} {s : State} {cmd : Handed}
    (waits : (s.port h).waitingCommand c = some cmd) (run : Handed → State → Reply) :
    takeCommand c h run s = (run cmd (taken s h c)).finish h cmd := by
  simp only [takeCommand, waits]
  rfl

@[simp] theorem finish_refuse (h : HostId) (cmd : Handed) (status : Status) (s : State) :
    (refuse status s).finish h cmd = answering h cmd status [] s := rfl

@[simp] theorem finish_accept (h : HostId) (cmd : Handed) (results : List Byte) (s : State) :
    (accept results s).finish h cmd = answering h cmd .ok results s := rfl

@[simp] theorem finish_acceptPending (h : HostId) (cmd : Handed) (s : State) :
    (acceptPending s).finish h cmd = s := rfl

@[simp] theorem finish_results (h : HostId) (cmd : Handed) (status : Status) (results : List Byte)
    (s : State) :
    Reply.finish h cmd { answer := some { status := status, results := results }, state := s } =
      answering h cmd status results s := rfl

@[simp] theorem taken_attached (s : State) (h : HostId) (c : CommandCode) :
    ((taken s h c).port h).attached = (s.port h).attached := by simp [taken]

/-- A command its block takes on an ATTACHED port that no detach has overtaken. -/
theorem takeCommand_takes {c : CommandCode} {h : HostId} {s : State} {cmd : Handed}
    (takes : Takes s h c cmd) (run : Handed → State → Reply) :
    takeCommand c h (ifAttached h run) s = (run cmd (taken s h c)).finish h cmd := by
  obtain ⟨waits, attached, fresh⟩ := takes
  simp [takeCommand_some waits, ifAttached, attached, fresh]

/-- A command its block takes on a port that is DETACHED, or overtaken by a detach. -/
theorem takeCommand_detached {c : CommandCode} {h : HostId} {s : State} {cmd : Handed}
    (waits : (s.port h).waitingCommand c = some cmd)
    (detached : (s.port h).attached = false ∨ cmd.stale = true) (run : Handed → State → Reply) :
    takeCommand c h (ifAttached h run) s = answering h cmd .notAttached [] (taken s h c) := by
  rcases detached with detached | detached <;>
    simp [takeCommand_some waits, ifAttached, detached]

@[simp] theorem ifRange_some {α : Type} (a : α) (s : State) (run : α → Reply) :
    ifRange (some a) s run = run a := rfl

@[simp] theorem ifRange_none {α : Type} (s : State) (run : α → Reply) :
    ifRange none s run = refuse .range s := rfl

@[simp] theorem noArgs_nil : noArgs [] = some () := rfl

theorem noArgs_ne {args : List Byte} (ne : args ≠ []) : noArgs args = none := by
  simp [noArgs, guardSome, ne]

/-! ### The fields after a command is taken, and after it is answered -/

section Taken

variable (s : State) (h : HostId) (c : CommandCode) (cmd : Handed) (status : Status)
  (results : List Byte)

@[simp] theorem taken_pending : (taken s h c).pending = s.pending := rfl
@[simp] theorem taken_requests : (taken s h c).requests = s.requests := rfl
@[simp] theorem taken_profiles : (taken s h c).profiles = s.profiles := rfl
@[simp] theorem taken_calendar : (taken s h c).calendar = s.calendar := rfl
@[simp] theorem taken_sequencer : (taken s h c).sequencer = s.sequencer := rfl
@[simp] theorem taken_framePass : (taken s h c).framePass = s.framePass := rfl
@[simp] theorem taken_videoOut : (taken s h c).videoOut = s.videoOut := rfl
@[simp] theorem taken_link : (taken s h c).link = s.link := rfl
@[simp] theorem taken_delivery : (taken s h c).delivery = s.delivery := rfl
@[simp] theorem taken_engine : (taken s h c).engine = s.engine := rfl
@[simp] theorem taken_resetHeld : (taken s h c).resetHeld = s.resetHeld := rfl
@[simp] theorem taken_freeIndex : (taken s h c).freeIndex = s.freeIndex := rfl
@[simp] theorem taken_request (g : HostId) (tag : Nat) :
    (taken s h c).request g tag = s.request g tag := rfl
@[simp] theorem taken_requestsOf (g : HostId) : (taken s h c).requestsOf g = s.requestsOf g := rfl
@[simp] theorem taken_profile (id : Fin 16) : (taken s h c).profile id = s.profile id := rfl
@[simp] theorem taken_profilesOwned (g : HostId) :
    (taken s h c).profilesOwned g = s.profilesOwned g := rfl
@[simp] theorem taken_hasActiveUser (id : Fin 16) :
    (taken s h c).hasActiveUser id = s.hasActiveUser id := rfl
@[simp] theorem taken_mailbox (g : HostId) : (taken s h c).mailbox g = s.mailbox g := rfl
@[simp] theorem taken_holdsClaim (g : HostId) : (taken s h c).holdsClaim g = s.holdsClaim g := rfl
@[simp] theorem taken_notices : ((taken s h c).port h).notices = (s.port h).notices := by
  simp [taken]

theorem taken_port (g : HostId) :
    (taken s h c).port g =
      if g = h then
        { s.port h with handed := (s.port h).handed.eraseP fun x => x.code == c }
      else s.port g := State.setPort_port ..

@[simp] theorem answering_requests : (answering h cmd status results s).requests = s.requests := rfl
@[simp] theorem answering_profiles : (answering h cmd status results s).profiles = s.profiles := rfl
@[simp] theorem answering_calendar : (answering h cmd status results s).calendar = s.calendar := rfl
@[simp] theorem answering_sequencer :
    (answering h cmd status results s).sequencer = s.sequencer := rfl
@[simp] theorem answering_link : (answering h cmd status results s).link = s.link := rfl
@[simp] theorem answering_delivery : (answering h cmd status results s).delivery = s.delivery := rfl
@[simp] theorem answering_engine : (answering h cmd status results s).engine = s.engine := rfl

end Taken

/-! ### Notices -/

/-- A notice touches the one port, and only its notice queue. -/
theorem postNotice_eq (h : HostId) (n : Notice) (s : State) :
    postNotice h n s = s.setPort h (posted n (s.port h)) := by
  unfold postNotice posted
  split <;> simp [*]

theorem postNotice_port (h g : HostId) (n : Notice) (s : State) :
    (postNotice h n s).port g = if g = h then posted n (s.port h) else s.port g := by
  rw [postNotice_eq, State.setPort_port]

theorem postToAll_port (n : Notice) (s : State) (g : HostId) :
    (postToAll n s).port g = posted n (s.port g) := by
  cases g <;> simp [postToAll, allHosts, postNotice_port]

/-- A notice to every attached host touches the ports alone. -/
theorem postToAll_eq (n : Notice) (s : State) :
    postToAll n s = { s with ports := postedToAll n s } := by
  have ports : (postToAll n s).ports = postedToAll n s :=
    PerHost.ext_get fun h => by
      have := postToAll_port n s h
      cases h <;> exact this
  rw [← ports]
  simp only [postToAll, allHosts, List.foldl_cons, List.foldl_nil, postNotice_eq]
  rfl

theorem posted_attached (n : Notice) (p : Port) : (posted n p).attached = p.attached := by
  unfold posted
  split <;> rfl

/-- The rows of the table of R154, by what the queue ends with. -/
theorem joinNotice_nil (n : Notice) : joinNotice [] n = [n] := rfl

theorem joinNotice_lost {lost : Notice} (isLost : lost.kind = .noticeLost) (front : List Notice)
    (n : Notice) :
    joinNotice (front ++ [lost]) n =
      front ++ [{ lost with subject := saturatingSucc 65535 lost.subject }] := by
  simp [joinNotice, isLost]

theorem joinNotice_kept {last : Notice} (isKept : last.kind ≠ .noticeLost) (front : List Notice)
    (n : Notice) :
    joinNotice (front ++ [last]) n =
      front ++ [last] ++
        [if front.length + 2 < 16 then n else { kind := .noticeLost, subject := 1, detail := 0 }] := by
  simp only [joinNotice, List.getLast?_concat, isKept, if_false, noticeQueueSize,
    List.length_append, List.length_singleton]
  split <;> rfl

end Sys2Proof.Machine
end

