-- ==== Sys2Proof/Laws/Touches.lean ====
section
/-! SUPPORT. What each shared operation can touch: of the tables, of the link and the next-slot place, and of
Delivery, and of a transaction under way. Every other part of the state is left as it was. -/

namespace Sys2Proof.Machine

open Sys2Proof.Safety

/-! ### The three kinds of touch -/

/-- `t` differs from `s` in the ports' notices, the two tables and the Calendar alone. -/
def TouchesTables (s t : State) : Prop :=
  t = { s with ports := t.ports, requests := t.requests, profiles := t.profiles,
               calendar := t.calendar }

/-- `t` differs from `s` in the Sensor Link and the next-slot place alone. -/
def TouchesLink (s t : State) : Prop :=
  t = { s with link := t.link, sequencer := { s.sequencer with next := t.sequencer.next } }

/-- `t` differs from `s` in the tables and in the record queues alone. -/
def TouchesRecords (s t : State) : Prop :=
  t = { s with ports := t.ports, requests := t.requests, profiles := t.profiles,
               calendar := t.calendar,
               delivery := { s.delivery with boxes := t.delivery.boxes } }

theorem TouchesTables.refl (s : State) : TouchesTables s s := rfl

theorem TouchesTables.trans {s t u : State} (a : TouchesTables s t) (b : TouchesTables t u) :
    TouchesTables s u := by
  unfold TouchesTables at *
  rw [b, a]

theorem TouchesLink.refl (s : State) : TouchesLink s s := rfl

theorem TouchesLink.trans {s t u : State} (a : TouchesLink s t) (b : TouchesLink t u) :
    TouchesLink s u := by
  unfold TouchesLink at *
  rw [b, a]

theorem TouchesRecords.refl (s : State) : TouchesRecords s s := rfl

theorem TouchesRecords.trans {s t u : State} (a : TouchesRecords s t) (b : TouchesRecords t u) :
    TouchesRecords s u := by
  unfold TouchesRecords at *
  rw [b, a]

theorem TouchesTables.toRecords {s t : State} (a : TouchesTables s t) : TouchesRecords s t := by
  unfold TouchesTables at a
  unfold TouchesRecords
  rw [a]

/-- A fold of steps that each touch the tables alone. -/
theorem TouchesTables.foldl {α : Type} (f : State → α → State) (l : List α) (s : State)
    (each : ∀ s a, TouchesTables s (f s a)) : TouchesTables s (l.foldl f s) := by
  induction l generalizing s with
  | nil => exact .refl s
  | cons a l ih => exact (each s a).trans (ih (f s a))

/-- A fold that carries a flag beside a state, each step touching the tables alone. -/
theorem TouchesTables.foldl_flag {α : Type} (f : State × Bool → α → State × Bool) (l : List α)
    (acc : State × Bool) (each : ∀ acc a, TouchesTables acc.1 (f acc a).1) :
    TouchesTables acc.1 (l.foldl f acc).1 := by
  induction l generalizing acc with
  | nil => exact .refl _
  | cons a l ih => exact (each acc a).trans (ih (f acc a))

theorem TouchesRecords.foldl {α : Type} (f : State → α → State) (l : List α) (s : State)
    (each : ∀ s a, TouchesRecords s (f s a)) : TouchesRecords s (l.foldl f s) := by
  induction l generalizing s with
  | nil => exact .refl s
  | cons a l ih => exact (each s a).trans (ih (f s a))

/-! ### The tables -/

/-- A trigger acts on the builder alone (R52). -/
theorem trigger_eq (s : State) :
    trigger s =
      { s with calendar := { s.calendar with builder := triggered s.calendar.builder s } } := by
  unfold trigger triggered
  cases h : s.calendar.builder <;> simp [beginBuild, buildTime]

theorem trigger_touches (s : State) : TouchesTables s (trigger s) := by
  rw [trigger_eq]
  rfl

/-- The rebuild of R7: a trigger exactly when a request left ACTIVE and some request is WAITING. -/
theorem rebuildIfWaiting_eq (left : Bool) (s : State) :
    rebuildIfWaiting left s =
      { s with
        calendar :=
          { s.calendar with
            builder :=
              if left = true ∧ s.anyWaiting = true then triggered s.calendar.builder s
              else s.calendar.builder } } := by
  unfold rebuildIfWaiting
  cases left <;> cases s.anyWaiting <;> simp [trigger_eq]

theorem rebuildIfWaiting_touches (left : Bool) (s : State) :
    TouchesTables s (rebuildIfWaiting left s) := by
  rw [rebuildIfWaiting_eq]
  rfl

theorem postNotice_touches (h : HostId) (n : Notice) (s : State) :
    TouchesTables s (postNotice h n s) := by
  rw [postNotice_eq]
  rfl

theorem postToAll_touches (n : Notice) (s : State) : TouchesTables s (postToAll n s) := by
  rw [postToAll_eq]
  rfl

/-- An ACTIVE request's pair leaves the active calendar, and nothing else changes (R5, R59). -/
theorem leaveCalendar_eq (r : Request) (s : State) :
    leaveCalendar r s =
      { s with
        calendar :=
          { s.calendar with
            active :=
              if r.isActive then s.calendar.active.map (Slot.without { host := r.owner, tag := r.tag })
              else s.calendar.active } } := by
  unfold leaveCalendar
  cases r.isActive <;> simp [removePair]

theorem leaveCalendar_touches (r : Request) (s : State) : TouchesTables s (leaveCalendar r s) := by
  rw [leaveCalendar_eq]
  rfl

/-- The entry of a profile whose reference count falls: one less, or free where an ORPHANED profile's count
reaches 0 (R27). -/
theorem lowerReference_eq {id : Fin 16} {p : Profile} {s : State} (held : s.profile id = some p) :
    lowerReference id s =
      s.setProfile id
        (if p.life = .orphaned ∧ p.references - 1 = 0 then none
        else some { p with references := p.references - 1 }) := by
  unfold lowerReference
  simp only [held]
  split <;> rfl

theorem lowerReference_touches (id : Fin 16) (s : State) :
    TouchesTables s (lowerReference id s) := by
  cases h : s.profile id with
  | none => simp [lowerReference, h, TouchesTables]
  | some p =>
    rw [lowerReference_eq h]
    rfl

theorem raiseReference_eq {id : Fin 16} {p : Profile} {s : State} (held : s.profile id = some p) :
    raiseReference id s = s.setProfile id (some { p with references := p.references + 1 }) := by
  simp [raiseReference, held]

theorem updateRequest_touches (h : HostId) (tag : Nat) (f : Request → Request) (s : State) :
    TouchesTables s (s.updateRequest h tag f) := rfl

theorem clearEntry_touches (r : Request) (s : State) : TouchesTables s (clearEntry r s) :=
  (show TouchesTables s (s.setTable _) from rfl).trans (lowerReference_touches ..)

theorem freeEntry_touches (r : Request) (s : State) : TouchesTables s (freeEntry r s) :=
  (leaveCalendar_touches r s).trans (clearEntry_touches ..)

theorem abortTune_touches (id : Fin 16) (s : State) : TouchesTables s (abortTune id s) := by
  unfold abortTune
  split
  · exact .refl s
  · rename_i p _
    split
    · split
      · exact .refl s
      · split
        · exact (show TouchesTables s (s.setProfile id _) from rfl).trans (postNotice_touches ..)
        · exact rfl
    · exact .refl s

theorem tellLeft_touches (r : Request) (s : State) : TouchesTables s (tellLeft r s) := by
  unfold tellLeft
  split
  · exact abortTune_touches ..
  · exact .refl s

theorem suspend_touches (r : Request) (s : State) : TouchesTables s (suspend r s) :=
  (((leaveCalendar_touches r s).trans (updateRequest_touches ..)).trans
    (postNotice_touches ..)).trans (tellLeft_touches ..)

theorem chargeMiss_touches (h : HostId) (acc : State × Bool) (tag : Nat) :
    TouchesTables acc.1 (chargeMiss h acc tag).1 := by
  unfold chargeMiss
  split
  · exact .refl _
  · dsimp only
    split
    · exact (updateRequest_touches ..).trans (suspend_touches ..)
    · exact updateRequest_touches ..

theorem missReport_touches (h : HostId) (tags : List Nat) (s : State) :
    TouchesTables s (missReport h tags s) :=
  (TouchesTables.foldl_flag (chargeMiss h) tags (s, false) (chargeMiss_touches h)).trans
    (rebuildIfWaiting_touches ..)

theorem acknowledgementReport_touches (h : HostId) (tags : List Nat) (s : State) :
    TouchesTables s (acknowledgementReport h tags s) :=
  .foldl _ tags s fun _ _ => updateRequest_touches ..

theorem countOccasion_touches (c : FrameContext) (acc : State × Bool) (pair : Subscriber) :
    TouchesTables acc.1 (countOccasion c acc pair).1 := by
  unfold countOccasion
  split
  · exact .refl _
  · split
    · exact .refl _
    · split
      · split
        · exact (((leaveCalendar_touches ..).trans (postNotice_touches ..)).trans
            (clearEntry_touches ..)).trans (tellLeft_touches ..)
        · exact updateRequest_touches ..
      · exact .refl _

theorem countOccasions_touches (c : FrameContext) (outcome : FrameOutcome) (s : State) :
    TouchesTables s (countOccasions c outcome s) := by
  unfold countOccasions
  split
  · exact .refl s
  · exact (TouchesTables.foldl_flag (countOccasion c) c.subscribers (s, false)
      (countOccasion_touches c)).trans (rebuildIfWaiting_touches ..)

theorem endTune_touches (id : Fin 16) (p : Profile) (kind : NoticeKind) (frames : Nat) (s : State) :
    TouchesTables s (endTune id p kind frames s) := by
  unfold endTune
  split
  · exact (show TouchesTables s (s.setProfile id _) from rfl).trans (postNotice_touches ..)
  · exact rfl

theorem stepAuto_touches (id : Fin 16) (p : Profile) (mean : Nat) (s : State) :
    TouchesTables s (stepAuto id p mean s) := by
  unfold stepAuto
  split <;> exact rfl

theorem stepTuning_touches (id : Fin 16) (p : Profile) (loop : Loop) (mean : Nat) (s : State) :
    TouchesTables s (stepTuning id p loop mean s) := by
  unfold stepTuning
  dsimp only
  split
  · exact endTune_touches ..
  · split
    · exact endTune_touches ..
    · exact rfl

theorem judgeFrame_touches (c : FrameContext) (outcome : FrameOutcome) (s : State) :
    TouchesTables s (judgeFrame c outcome s) := by
  unfold judgeFrame
  split
  · exact .refl s
  · split
    · dsimp only
      split
      · exact .refl s
      · exact stepAuto_touches ..
      · exact stepTuning_touches ..
    · exact .refl s

theorem setSwapState_touches (placed : List Placed) (s : State) (r : Request) :
    TouchesTables s (setSwapState placed s r) := by
  unfold setSwapState
  dsimp only
  split
  · exact (updateRequest_touches ..).trans (postNotice_touches ..)
  · exact updateRequest_touches ..

theorem setSwapStates_touches (placed : List Placed) (s : State) :
    TouchesTables s (setSwapStates placed s) :=
  (TouchesTables.foldl _ _ _ (setSwapState_touches placed)).trans
    (.foldl _ _ _ fun t id => abortTune_touches id t)

theorem setCalendar_touches (s : State) (c : Calendar) :
    TouchesTables s { s with calendar := c } := rfl

theorem swap_touches (sh : Shadow) (s : State) : TouchesTables s (swap sh s) := by
  unfold swap
  dsimp only
  exact (setCalendar_touches s _).trans
    ((setSwapStates_touches sh.placed _).trans
      ((setCalendar_touches _ _).trans (postToAll_touches ..)))

theorem freeDetached_touches (acc : State × Bool) (r : Request) :
    TouchesTables acc.1 (freeDetached acc r).1 :=
  (freeEntry_touches ..).trans (tellLeft_touches ..)

theorem freeRequestsOf_touches (h : HostId) (s : State) : TouchesTables s (freeRequestsOf h s) :=
  (TouchesTables.foldl_flag _ _ (s, false) freeDetached_touches).trans (rebuildIfWaiting_touches ..)

/-! ### The Sensor Link and the next-slot place -/

theorem answerSetup_touches (setup : Nat) (complete : Bool) (s : State) :
    TouchesLink s (answerSetup setup complete s) := by
  unfold answerSetup
  split
  · exact .refl s
  · split
    · exact rfl
    · exact .refl s

theorem takeUpSetup_touches (r : SetupRequest) (s : State) : TouchesLink s (takeUpSetup r s) := by
  unfold takeUpSetup
  split
  · exact (show TouchesLink s (s.setLinkState _) from rfl).trans (answerSetup_touches ..)
  · exact rfl

theorem linkIdle_touches (s : State) : TouchesLink s (linkIdle s) := by
  unfold linkIdle
  split
  · exact rfl
  · exact (show TouchesLink s { s with link := _ } from rfl).trans (takeUpSetup_touches ..)
  · exact rfl

theorem handSetup_touches (r : SetupRequest) (s : State) : TouchesLink s (handSetup r s) := by
  unfold handSetup
  split
  · exact takeUpSetup_touches ..
  · exact rfl

theorem endSetup_touches (setup : Nat) (s : State) : TouchesLink s (endSetup setup s) := by
  unfold endSetup
  repeat' split
  all_goals first | exact linkIdle_touches s | exact rfl

theorem abandonNext_touches (s : State) : TouchesLink s (abandonNext s) := by
  unfold abandonNext
  split
  · exact .refl s
  · exact (show TouchesLink s (s.setNext none) from rfl).trans (endSetup_touches ..)

/-! ### Delivery -/

theorem offerRecord_touches (h : HostId) (r : Record) (s : State) :
    TouchesRecords s (offerRecord h r s) := by
  unfold offerRecord
  dsimp only
  split
  · exact rfl
  · exact (show TouchesRecords s (s.setMailbox h _) from rfl).trans
      (missReport_touches ..).toRecords

theorem composeRecord_touches (c : FrameContext) (outcome : FrameOutcome) (s : State) (h : HostId) :
    TouchesRecords s (composeRecord c outcome s h) := by
  unfold composeRecord
  split
  · exact .refl s
  · exact offerRecord_touches ..

theorem composeRecords_touches (c : FrameContext) (outcome : FrameOutcome) (s : State) :
    TouchesRecords s (composeRecords c outcome s) :=
  .foldl _ allHosts s (composeRecord_touches c outcome)

theorem discardRecord_touches (h : HostId) (s : State) (r : Record) :
    TouchesRecords s (discardRecord h s r) :=
  (show TouchesRecords s (s.setMailbox h _) from rfl).trans (missReport_touches ..).toRecords

/-- The first three steps of a close touch the tables and the record queues alone. -/
theorem closeSteps_touch (c : FrameContext) (outcome : FrameOutcome) (s : State) :
    TouchesRecords s
      (countOccasions c outcome (judgeFrame c outcome (composeRecords c outcome s))) :=
  ((composeRecords_touches c outcome s).trans (judgeFrame_touches ..).toRecords).trans
    (countOccasions_touches ..).toRecords

/-! ### The transaction under way at a port (R141) -/

/-- `t` differs from `s` in the transaction under way at one port and the bytes shifted out there alone. -/
def TouchesTransfer (h : HostId) (s t : State) : Prop :=
  t = s.setPort h
    { s.port h with select := (t.port h).select, shiftedOut := (t.port h).shiftedOut }

theorem TouchesTransfer.refl (h : HostId) (s : State) : TouchesTransfer h s s :=
  (State.setPort_self s h).symm

theorem selectFalls_touches (h : HostId) (s : State) : TouchesTransfer h s (selectFalls h s) := by
  simp [TouchesTransfer, selectFalls]

theorem shiftOut_touches (h : HostId) (out : List Byte) (stage : Transfer) (s : State) :
    TouchesTransfer h s (shiftOut h out stage s) := by
  simp [TouchesTransfer, shiftOut]

theorem selectRises_touches (h : HostId) (s : State) : TouchesTransfer h s (selectRises h s) := by
  simp [TouchesTransfer, selectRises]

theorem commonMoment_touches (h : HostId) (m : Moment) (s : State) :
    TouchesTransfer h s (commonMoment h m s) := by
  unfold commonMoment
  split
  · exact selectFalls_touches h s
  · exact shiftOut_touches ..
  · exact shiftOut_touches ..
  · exact selectRises_touches h s
  · exact selectRises_touches h s
  · exact selectRises_touches h s
  · exact .refl h s

end Sys2Proof.Machine
end

