-- ==== Sys2Proof/WellFormed.lean ====
section
/-! DEFINITION. Which command terms spell a happening the handbook knows, so far as the term alone tells:
the direction byte of a status poll, the position of a byte not acknowledged, and the number of data bytes
of a read. -/

namespace Sys2Proof

/-- A NACK falls on the address byte (1), a register address byte (2, 3) or a data byte (4 to 6) of a write
transaction, or on one of the four address bytes of a read (R121, R122, R124). -/
def BusAnswer.wellFormed : BusAnswer → Bool
  | .acknowledged => true
  | .nack position => 1 ≤ position && position ≤ 6

/-- A read receives 1 to 3 data bytes, and the sensor can refuse only its four address bytes (R124). -/
def ReadAnswer.wellFormed : ReadAnswer → Bool
  | .data bytes => 1 ≤ bytes.length && bytes.length ≤ 3
  | .nack position => 1 ≤ position && position ≤ 4

/-- The operands of a command lie where its rule puts them: a status poll has a direction byte other than
01h and 02h (R141), and the sensor's answers are those of R121, R122 and R124. Every other operand is well
formed at every value. -/
def Instr.wellFormed : Instr → Bool
  | .statusPoll _ direction _ => direction != 0x01#8 && direction != 0x02#8
  | .setupWriteEnd answer => answer.wellFormed
  | .drainEnd answer => answer.wellFormed
  | .directWriteEnd answer => answer.wellFormed
  | .directReadEnd answer => answer.wellFormed
  | .powerOn | .hrstPulse _ | .hrstRelease _ | .commandTransaction _ _ | .responseRead _ _
  | .commandAnswer _ | .attach _ | .detach _ | .detachFreeRequests _ | .detachProfiles _
  | .detachEmptyRecordQueue _ | .detachEndDirectCommand _ | .detachFreeClaim _ | .getStatus _
  | .getNotice _ | .setAttention _ | .submit _ | .cancel _ | .resume _ | .queryRequest _
  | .listRequests _ | .createProfile _ | .deleteProfile _ | .readProfile _ | .setExposure _
  | .setLimits _ | .setTarget _ | .setWindow _ | .setSteps _ | .share _ | .setMode _ | .tune _
  | .rebuild _ | .readSlot _ | .getCalendarInfo _ | .fetchRecord _ | .ackRecord _ | .setHold _
  | .claim _ | .release _ | .setConfig _ | .readConfig _ | .setQuota _ | .start _ | .stop _
  | .sensorRead _ | .sensorWrite _ | .setMap _ | .claimExpiry | .holdTimeout _ | .buildComplete
  | .slotStart | .exposureTimerExpiry | .frameStart | .videoLine _ _ | .frameEnd
  | .i2cTransactionBegin | .resetRelease => true

end Sys2Proof
end

