-- ==== Sys2Proof/Tests/Slice0.lean ====
section
/-! SUPPORT. Tests of one step or one operation each, their expected values taken from the handbook's worked
examples and tables; and for every statement with hypotheses a witness, a concrete state with operands that
meet them together, at the ends of a range where a clause has one. -/

namespace Sys2Proof.Tests

open Sys2Proof.Machine Sys2Proof.Safety

/-! ### Ill-formed terms are refused (WellFormed.lean) -/

theorem test_poll_direction :
    Instr.wellFormed (.statusPoll .h0 0x01 .direction) = false ∧
    Instr.wellFormed (.statusPoll .h0 0x02 .direction) = false ∧
    Instr.wellFormed (.statusPoll .h0 0x00 .direction) = true := by decide

theorem test_write_nack_position :
    Instr.wellFormed (.setupWriteEnd (.nack 0)) = false ∧
    Instr.wellFormed (.drainEnd (.nack 7)) = false ∧
    Instr.wellFormed (.directWriteEnd (.nack 7)) = false ∧
    Instr.wellFormed (.setupWriteEnd (.nack 1)) = true ∧
    Instr.wellFormed (.directWriteEnd (.nack 6)) = true := by decide

theorem test_read_nack_position :
    Instr.wellFormed (.directReadEnd (.nack 0)) = false ∧
    Instr.wellFormed (.directReadEnd (.nack 5)) = false ∧
    Instr.wellFormed (.directReadEnd (.nack 4)) = true := by decide

theorem test_read_data_length :
    Instr.wellFormed (.directReadEnd (.data [])) = false ∧
    Instr.wellFormed (.directReadEnd (.data [0, 0, 0, 0])) = false ∧
    Instr.wellFormed (.directReadEnd (.data [0])) = true := by decide

/-! ### Command frames, written out from Tables 9-1 and 9-4 -/

theorem test_frames_decode :
    decodeFrame [0x01, 0x00] = .ok (.attach, []) ∧
    decodeFrame [0x11, 0x01, 0x07] = .ok (.cancel, [0x07]) ∧
    decodeFrame [0x28, 0x02, 0x05, 0x01] = .ok (.share, [0x05, 0x01]) ∧
    decodeFrame [0x30, 0x02, 0x09, 0x01] = .ok (.setMode, [0x09, 0x01]) ∧
    decodeFrame [0x38, 0x00] = .ok (.rebuild, []) ∧
    decodeFrame [0x41, 0x04, 0x00, 0x00, 0x01, 0x2C] = .ok (.ackRecord, [0x00, 0x00, 0x01, 0x2C]) ∧
    decodeFrame [0x52, 0x02, 0x02, 0x36] = .ok (.setConfig, [0x02, 0x36]) ∧
    decodeFrame [0x62, 0x04, 0x00, 0x30, 0x12, 0x02] = .ok (.setMap, [0x00, 0x30, 0x12, 0x02]) :=
  ⟨rfl, rfl, rfl, rfl, rfl, rfl, rfl, rfl⟩

theorem test_frames_refused :
    decodeFrame [0x06, 0x00] = .error .unknownCommand ∧
    decodeFrame [0x01, 0x01] = .error .badLength ∧ decodeFrame [0x01] = .error .badLength ∧
    decodeFrame (0x01 :: 0x21 :: List.replicate 33 0) = .error .badLength := ⟨rfl, rfl, rfl, rfl⟩

/-! ### Worked examples of the handbook -/

/-- Nine digits, and the CRC the handbook gives for them (R112). -/
theorem test_crc_check_value :
    crc [0x31, 0x32, 0x33, 0x34, 0x35, 0x36, 0x37, 0x38, 0x39] = 0x29B1 := by decide +kernel

/-- A profile with the values of CREATE_PROFILE (Table 2-2), SHARED. -/
def plain : Profile :=
  { sharing := .shared, life := .live .h0, mode := .manual, baseExposure := 10000, baseGain := 16,
    exposureMin := 10, exposureMax := 1000000, gainMin := 16, gainMax := 256, target := 512,
    tolerance := 32, window := { x := 0, y := 0, width := 1280, height := 960 },
    steps := [{ shift := 0, offset := 0 }], references := 0 }

/-- Section 5.4's three adjustments, the slot budget being 17,233 µs (R94 to R96). -/
theorem test_adjustments :
    let new := fun (e g : Nat) (mean : Nat) =>
      let q := adjusted 17233 { plain with baseExposure := e, baseGain := g } mean
      (q.baseExposure, q.baseGain)
    new 4000 16 64 = (8000, 16) ∧ new 16000 16 256 = (17233, 29) ∧
    new 10000 20 1000 = (6400, 16) := by decide

/-- Table 2-5: the bracket of three steps at a slot budget of 17,233 µs (R40). -/
theorem test_applied_values :
    let step := fun (shift offset : Int) =>
      let t : BracketStep := { shift := shift, offset := offset }
      (appliedExposure 17233 6000 t, appliedGain 24 t, isClamped 17233 6000 t)
    step (-1) 0 = (3000, 24, false) ∧ step 0 0 = (6000, 24, false) ∧
    step 2 8 = (17233, 32, true) ∧ appliedGain 40 { shift := 0, offset := -64 } = 16 := by decide

/-- Table 6-5: the statistics of a window of 64 by 8 (R106, R107). -/
theorem test_statistics :
    let a : Accumulators :=
      { pixelCount := 512, levelSum := 236544
        bins := #v[10, 40, 100, 150, 120, 60, 20, 12], clipCount := 5, lineCount := 8
        lengthFault := false }
    let window : Window := { x := 608, y := 480, width := 64, height := 8 }
    a.statistics =
        { mean := 462, histogram := #v[20, 80, 200, 300, 240, 120, 40, 24], clipShare := 10 } ∧
      a.mismatch window = false ∧ { a with lineCount := 9 }.mismatch window = true := by decide

/-- A frame context as section 6.5 has it: frame 901 of generation 18, profile 2, step 0, for H0/1. -/
def frame901 : FrameContext :=
  { slotIndex := 0, generation := 18, profile := 2, stepIndex := 0
    subscribers := [{ host := .h0, tag := 1 }], exposure := 5000, gain := 16
    window := { x := 0, y := 0, width := 1280, height := 960 }, linkResult := .complete
    frameNumber := some 901, triggerTime := some 0, clamped := false, tuning := false
    sizeMismatch := false, outcome := none, statistics := none }

/-- Table 6-6: the header bytes of frame 901 (R110, R111). -/
theorem test_header_bytes :
    headerBody frame901 =
      [0x5A, 0xC3, 0x00, 0x00, 0x03, 0x85, 0x00, 0x12, 0x00, 0x02, 0x00, 0x01, 0x00, 0x00, 0x13, 0x88,
        0x00, 0x10, 0x00, 0x00, 0x00, 0x00, 0x05, 0x00, 0x03, 0xC0, 0x00, 0x01]
      ++ List.replicate 34 0x00 := by decide

/-- A candidate of class and admission sequence. -/
def candidate (h : HostId) (tag : Nat) (profile : Fin 16) (stepCount period phase priority : Nat)
    (sequence : BitVec 32) : Candidate :=
  { owner := h, tag := tag, profile := profile, stepCount := stepCount, period := period,
    preferredPhase := phase, priority := priority, sequence := sequence, state := .pending }

/-- Table 3-7: the build of section 3.10, a bracket among single steps (R47 to R51). -/
theorem test_build_example :
    let pair := fun (h : HostId) (tag : Nat) => ({ host := h, tag := tag } : Subscriber)
    let sh := buildShadow
      [candidate .h3 2 5 3 4 10 2 205, candidate .h0 6 5 3 8 0 1 204, candidate .h2 3 9 1 8 6 1 203,
        candidate .h1 7 5 3 8 3 1 202, candidate .h0 1 2 1 4 1 0 201]
    sh.unplaced = 1 ∧
    sh.slots =
      [.idle, .assigned 2 0 [pair .h0 1], .assigned 5 0 [pair .h1 7, pair .h0 6],
        .assigned 5 1 [pair .h1 7, pair .h0 6], .assigned 5 2 [pair .h1 7, pair .h0 6],
        .assigned 2 0 [pair .h0 1], .assigned 9 0 [pair .h2 3], .idle] := by decide +kernel

/-- Table 7-3: the register values and the write list of the first setup of a run, and the longest times of
its first two transactions, 117.5 and 95 µs (R117, R120, R121). -/
theorem test_write_list :
    let entry := fun (register : BitVec 16) (count : Nat) =>
      ({ register := register, count := count } : MapEntry)
    let link :=
      { State.reset.link with
        map := ⟨entry 0x3012 2, entry 0x3060 1, entry 0x3002 2, entry 0x3004 2, entry 0x3008 2,
          entry 0x300A 2⟩ }
    let r : SetupRequest :=
      { setup := 0, exposure := 5000, gain := 16
        window := { x := 0, y := 0, width := 1280, height := 960 } }
    (writeList link r).map (fun w => (w.register, w.value)) =
        [(0x3012, 300), (0x3060, 16), (0x3002, 0), (0x3004, 0), (0x3008, 1280), (0x300A, 960)] ∧
      registerValue 16700 { r with exposure := 8000 } .exposure = 480 ∧
      ((writeList link r).map fun w => (w.transaction link).left).take 2 = [118, 95] := by decide

/-! ### States the witnesses use -/

/-- What `exec` leaves. -/
def after (c : Instr) (s : State) : State :=
  match exec c s with
  | .next t => t
  | _ => s

/-- A command of a host, as its port has handed it on. -/
def cmdOf (c : CommandCode) (args : List Byte) : Handed :=
  { serial := 0, code := c, args := args, stale := false, left := 20 }

/-- The part with host 0 attached and one command of it handed on. -/
def asking (s : State) (c : CommandCode) (args : List Byte) : State :=
  s.setPort .h0
    { s.port .h0 with
      attached := true, buffer := .pending 0, nextSerial := 1, handed := [cmdOf c args] }

/-- The same on a port that is DETACHED. -/
def askingDetached (s : State) (c : CommandCode) (args : List Byte) : State :=
  s.setPort .h0
    { s.port .h0 with buffer := .pending 0, nextSerial := 1, handed := [cmdOf c args] }

theorem asking_takes (s : State) (c : CommandCode) (args : List Byte) :
    Takes (asking s c args) .h0 c (cmdOf c args) := by
  refine ⟨?_, ?_, rfl⟩
  · simp [asking, cmdOf, Port.waitingCommand]
  · simp [asking]

/-- The part with host 0 attached. -/
def attached0 : State := State.reset.setPort .h0 { State.reset.port .h0 with attached := true, mask := 3 }

/-- The part with host 0 in a detach that has reached a step; a DETACH began it. -/
def detaching (s : State) (next : DetachStep) : State :=
  s.setPort .h0
    { s.port .h0 with
      attached := false, notices := [], mask := 0, buffer := .pending 0, nextSerial := 1
      detaching := some { next := next, answers := some 0, left := 100 } }

/-- A request on profile 0. -/
def wish (h : HostId) (tag : Nat) (state : RequestState) : Request :=
  { owner := h, tag := tag, kind := .stream, profile := 0, period := 1, preferredPhase := 0,
    priority := 0, missLimit := 0, misses := 0, sequence := BitVec.ofNat 32 tag, state := state }

/-- The part with profile 0 and the requests that reference it. -/
def shelf (p : Profile) (rs : List Request) : State :=
  { State.reset with
    profiles := State.reset.profiles.set 0 (some { p with references := rs.length })
    requests := { table := rs, counter := 10 } }

/-- A calendar of one slot that serves H0/1 from profile 0. -/
def served (s : State) : State :=
  { s with calendar.active := [.assigned 0 0 [{ host := .h0, tag := 1 }]] }

/-- Host 0's tag 1 is ACTIVE and host 1's tag 2 WAITING, on a profile of host 0. -/
def busy (p : Profile) : State := served (shelf p [wish .h0 1 (.active 0), wish .h1 2 .waiting])

theorem busy_requestsOk (p : Profile) : RequestsOk (busy p) := by
  refine ⟨by simp [busy, served, shelf], ?_, ?_, ?_⟩
  · simp [busy, served, shelf, wish]
  · simp [busy, served, shelf, wish]
  · intro r mem
    simp only [busy, served, shelf, List.mem_cons, List.not_mem_nil, or_false] at mem
    rcases mem with rfl | rfl <;>
      exact ⟨by decide, by decide, by decide, by decide, by decide, by decide, by simp [wish]⟩

theorem busy_calendarOk (p : Profile) : CalendarOk (busy p) := by
  refine ⟨⟨by simp [CycleLength, busy, served], by simp [busy, served]⟩, ?_, ?_, ?_⟩
  · intro sh e; cases e
  · intro snap stale left e; cases e
  · intro r mem
    simp only [busy, served, shelf, List.mem_cons, List.not_mem_nil, or_false] at mem
    rcases mem with rfl | rfl <;> rfl

theorem busy_profilesOk {p : Profile} {owner : HostId} (shared : p.sharing = .shared)
    (live : p.life = .live owner) (one : p.steps.length = 1) : ProfilesOk (busy p) := by
  intro id
  fin_cases id
  · refine ⟨rfl, by simp [one], ?_, ?_, ?_⟩
    · intro r mem _
      simp only [busy, served, shelf, List.mem_cons, List.not_mem_nil, or_false] at mem
      rcases mem with rfl | rfl <;> simp [one, wish]
    · intro e; simp [shared] at e
    · intro e; simp [live] at e
  all_goals rfl

/-- The forms of the request table and of the calendar rest on those two and no more. -/
theorem requestsOk_of {s t : State} (ok : RequestsOk s) (same : t.requests = s.requests) :
    RequestsOk t := by
  obtain ⟨a, b, c, d⟩ := ok
  exact ⟨same ▸ a, same ▸ b, same ▸ c, same ▸ d⟩

theorem calendarOk_of {s t : State} (ok : CalendarOk s) (calendar : t.calendar = s.calendar)
    (requests : t.requests = s.requests) : CalendarOk t := by
  obtain ⟨a, b, c, d⟩ := ok
  exact ⟨calendar ▸ a, calendar ▸ b, calendar ▸ c, requests ▸ d⟩

theorem profilesOk_of {s t : State} (ok : ProfilesOk s) (profiles : t.profiles = s.profiles)
    (requests : t.requests = s.requests) : ProfilesOk t := by
  intro id
  have h := ok id
  have e : t.profile id = s.profile id := by simp [State.profile, profiles]
  rw [e]
  have n : naming t id = naming s id := by simp [naming, requests]
  split
  · next p q =>
    rw [q] at h
    obtain ⟨a, b, c, d, f⟩ := h
    exact ⟨n ▸ a, b, requests ▸ c, by simpa [requests] using d, f⟩
  · next q =>
    rw [q] at h
    exact n ▸ h

/-! ### Witnesses: the block and its ports -/

theorem witness_StepRunsTheCommandAtTheFront :
    ({ State.reset with pending := [.powerOn, .slotStart] } : State).pending =
      .powerOn :: [.slotStart] := rfl

theorem witness_TimePassesOnAnEmptyQueue :
    ({ State.reset with resetHeld := true }).pending = [] ∧ State.reset.resetHeld = false ∧
    dueHappening { State.reset with engine.claim := some { holder := .h0, timer := 0 } } =
      some .claimExpiry ∧
    (let s := State.reset.setLinkState
      (.draining
        { bus := { address := 0x36, register := 0, data := .read 1, left := 0 }, records := none })
     dueHappening s = none ∧ busWaits s = true) ∧
    dueHappening State.reset = none ∧ busWaits State.reset = false := by decide

theorem witness_CommandFramesDecodeToWhatWasSent :
    (List.replicate 32 (0 : Byte)).length ≤ 32 ∧
    decodeFrame (0x01 :: 0x20 :: List.replicate 32 0) = .ok (.attach, List.replicate 32 0) :=
  ⟨by decide, rfl⟩

/-- The state with a transaction under way at host 0. -/
def under (stage : Transfer) (s : State) : State := s.setPort .h0 { s.port .h0 with select := some stage }

theorem witness_CommandTransactionIsDiscardedAnsweredOrHandedOn :
    (∀ stage s, ((under stage s).port .h0).select = some stage) ∧
    ((under (.command []) (asking State.reset .cancel [])).port .h0).buffer.isPending = true ∧
    ((under (.command []) State.reset).port .h0).buffer.isPending = false ∧
    (∀ frame ∈ [[], [0x01], [0x01, 0x01], 0x01 :: 0x21 :: List.replicate 33 0],
      ∀ (code n : Byte) (args : List Byte), frame = code :: n :: args → n.toNat ≤ 32 →
        args.length ≠ n.toNat) ∧
    (0x20 : Byte).toNat ≤ 32 ∧ (List.replicate 32 (0 : Byte)).length = (0x20 : Byte).toNat ∧
    (∀ c : CommandCode, c.toByte ≠ 0x06) ∧ CommandCode.attach.toByte = 0x01 ∧
    CommandCode.cancel.toByte = 0x11 ∧ (State.reset.port .h0).attached = false ∧
    (attached0.port .h0).attached = true := by
  refine ⟨fun _ _ => by simp [under], rfl, rfl, ?_, by decide, by decide, ?_, rfl, rfl, rfl, rfl⟩
  · intro frame mem code n args e le
    simp only [List.mem_cons, List.not_mem_nil, or_false] at mem
    rcases mem with rfl | rfl | rfl | rfl <;> cases e
    · decide
    · exact absurd le (by decide)
  · intro c; cases c <;> decide

theorem witness_TransactionsFollowTheResponseBuffer :
    let ready := State.reset.setPort .h0
      { State.reset.port .h0 with
        buffer := .ready { status := .ok, results := [0x00] }, discarded := true }
    let arriving := fun buffer => State.reset.setPort .h0
      { State.reset.port .h0 with
        buffer := buffer, answers := [{ serial := 0, response := .refusal .range, left := 20 }] }
    (∀ stage s, ((under stage s).port .h0).select = some stage ∧
      ((under stage s).port .h0).buffer = (s.port .h0).buffer) ∧
    (State.reset.port .h0).select = none ∧ (State.reset.port .h0).buffer = .empty ∧
    ((asking State.reset .cancel []).port .h0).buffer = .pending 0 ∧
    ((State.reset.setPort .h0 { State.reset.port .h0 with buffer := .pendingDetach }).port .h0).buffer =
      .pendingDetach ∧
    (ready.port .h0).buffer = .ready { status := .ok, results := [0x00] } ∧
    (0x00 : Byte) ≠ 0x01 ∧ (0x00 : Byte) ≠ 0x02 ∧ (0x03 : Byte) ≠ 0x01 ∧ (0x03 : Byte) ≠ 0x02 ∧
    ¬(State.reset.resetHeld = true ∨ (State.reset.port .h0).hrstLow = true) ∧
    ({ State.reset with resetHeld := true }).resetHeld = true ∧
    ((State.reset.setPort .h0 { State.reset.port .h0 with hrstLow := true }).port .h0).hrstLow = true ∧
    ((arriving (.pending 0)).port .h0).answers =
      [{ serial := 0, response := .refusal .range, left := 20 }] ∧
    ((arriving (.pending 0)).port .h0).buffer = .pending 0 ∧
    ((arriving (.pending 1)).port .h0).buffer ≠ .pending 0 := by
  refine ⟨fun _ _ => by simp [under], ?_⟩
  decide

theorem witness_AttachMakesThePortAttached :
    (((askingDetached State.reset .attach []).port .h0).waitingCommand .attach =
        some (cmdOf .attach []) ∧
      ((askingDetached State.reset .attach []).port .h0).attached = false) ∧
    ((askingDetached State.reset .attach [0x00]).port .h0).waitingCommand .attach =
      some (cmdOf .attach [0x00]) ∧
    (((asking State.reset .attach []).port .h0).waitingCommand .attach = some (cmdOf .attach []) ∧
      ((asking State.reset .attach []).port .h0).attached = true) ∧
    (cmdOf .attach []).stale = false := by decide

theorem witness_DetachBegins :
    Takes (asking State.reset .detach []) .h0 .detach (cmdOf .detach []) ∧
    State.reset.resetHeld = false ∧ (State.reset.port .h0).hrstLow = false ∧
    (State.reset.port .h0).detaching = none ∧
    ((detaching State.reset .requests).port .h0).hrstLow = false ∧
    ((detaching State.reset .requests).port .h0).detaching =
      some { next := .requests, answers := some 0, left := 100 } ∧
    (State.reset.port .h0).select = none ∧
    (∀ stage, ((under stage State.reset).port .h0).select = some stage) :=
  ⟨asking_takes .., rfl, rfl, rfl, rfl, rfl, rfl, fun _ => rfl⟩

/-- A profile of host 1 in a tune that has reached 7 frames. -/
def lent : Profile :=
  { plain with life := .live .h1, mode := .tuning { converge := 1, tuneFrames := 7 } }

theorem witness_DetachFreesTheHostsRequests :
    let s := detaching (busy lent) .requests
    RequestsOk s ∧ ProfilesOk s ∧ CalendarOk s ∧ (s.port .h0).attached = false ∧
    (s.port .h0).detaching = some { next := .requests, answers := some 0, left := 100 } ∧
    [wish .h0 1 (.active 0)].Perm (s.requests.table.filter fun r => r.owner == .h0) ∧
    [wish .h0 1 (.active 0)].Pairwise (fun a b => a.tag < b.tag) ∧
    s.profile 0 = some { lent with references := 2 } ∧
    tuneEnded s [wish .h0 1 (.active 0)] (wish .h0 1 (.active 0)) =
      [(.h1, { kind := .tuneAborted, subject := 0, detail := 7 })] ∧
    s.profile 1 = none ∧ HostId.h2 ≠ .h0 ∧
    ∀ id p loop, s.profile id = some p → p.life = .live .h2 → p.mode ≠ .tuning loop := by
  refine ⟨requestsOk_of (busy_requestsOk lent) rfl,
    profilesOk_of (busy_profilesOk (p := lent) rfl rfl rfl) rfl rfl,
    calendarOk_of (busy_calendarOk lent) rfl rfl, rfl, rfl, .refl _, by decide, rfl, by decide, rfl,
    by decide, ?_⟩
  intro id p loop e live
  fin_cases id
  · cases e; cases live
  all_goals cases e

theorem witness_DetachOrphansOrFreesTheHostsProfiles :
    ((detaching (busy plain) .profiles).port .h0).detaching =
      some { next := .profiles, answers := some 0, left := 100 } := rfl

/-- A direct command of host 0. -/
def direct0 : DirectCommand := { port := .h0, serial := 0, op := .read 0x3000 1 }

/-- A transaction on the bus. -/
def onBus (data : TransactionData) : Transaction :=
  { address := 0x36, register := 0x3000, data := data, left := 100 }

/-- The work of that command, with or without a transaction on the bus. -/
def work0 (bus : Option Transaction) : DirectWork :=
  { command := direct0, retry := false, bus := bus, left := 0 }

theorem witness_DetachEndsTheHostsOtherHoldings :
    let s := detaching State.reset
    (∀ next, ((s next).port .h0).detaching =
      some { next := next, answers := some 0, left := 100 }) ∧
    ((s .direct).setLinkState (.direct (work0 (some (onBus (.read 1)))))).link.state =
      .direct (work0 (some (onBus (.read 1)))) ∧
    ((s .direct).setLinkState (.direct (work0 none))).link.state = .direct (work0 none) ∧
    ((s .direct).setLinkState (.direct (work0 none))).link.waiting = none ∧
    (∀ w, (s .direct).link.state = .direct w → w.command.port ≠ .h0) :=
  ⟨fun _ => rfl, rfl, rfl, rfl, fun _ e => by cases e⟩

theorem witness_GetStatusAnswersItsNineteenBytes :
    (let s := under (.command (0x03 :: 0x00 :: [])) State.reset
     (s.port .h0).select = some (.command (0x03 :: 0x00 :: [])) ∧ (0x00 : Byte).toNat ≤ 32 ∧
      ([] : List Byte).length = (0x00 : Byte).toNat ∧ (s.port .h0).buffer.isPending = false ∧
      (s.port .h0).attached = false) ∧
    (let args : List Byte := List.replicate 32 0
     let s := under (.command (0x03 :: 0x20 :: args)) attached0
     (s.port .h0).select = some (.command (0x03 :: 0x20 :: args)) ∧ (0x20 : Byte).toNat ≤ 32 ∧
      args.length = (0x20 : Byte).toNat ∧ (s.port .h0).buffer.isPending = false ∧
      (s.port .h0).attached = true) ∧
    ((asking State.reset .getStatus []).port .h0).waitingCommand .getStatus =
      some (cmdOf .getStatus []) ∧
    ((askingDetached State.reset .getStatus [0x00]).port .h0).waitingCommand .getStatus =
      some (cmdOf .getStatus [0x00]) := by decide

/-- A notice. -/
def news (tag : Nat) : Notice := { kind := .requestActive, subject := tag, detail := 0 }

/-- The part with a notice queue at host 0. -/
def withNotices (q : List Notice) : State :=
  attached0.setPort .h0 { attached0.port .h0 with notices := q }

theorem witness_NoticesArePostedAndTaken :
    Takes (asking State.reset .getNotice []) .h0 .getNotice (cmdOf .getNotice []) ∧
    Takes (asking State.reset .getNotice [0x00]) .h0 .getNotice (cmdOf .getNotice [0x00]) ∧
    ((asking State.reset .getNotice []).port .h0).notices = [] ∧
    ((asking (withNotices [news 1, news 2]) .getNotice []).port .h0).notices = news 1 :: [news 2] ∧
    Takes (asking State.reset .setAttention [0x07]) .h0 .setAttention (cmdOf .setAttention [0x07]) ∧
    (0x07 : Byte).toNat ≤ 7 ∧
    Takes (asking State.reset .setAttention [0x08]) .h0 .setAttention (cmdOf .setAttention [0x08]) ∧
    (∀ mask : Byte, (cmdOf .setAttention [0x08]).args = [mask] → 7 < mask.toNat) ∧
    (State.reset.port .h0).attached = false ∧
    ((withNotices (List.replicate 14 (news 1))).port .h0).attached = true ∧
    (∀ n ∈ [14, 15], ∀ m ∈ ((withNotices (List.replicate n (news 1))).port .h0).notices,
      m.kind ≠ .noticeLost) ∧
    ((withNotices (List.replicate 14 (news 1))).port .h0).notices.length ≤ 14 ∧
    ((withNotices (List.replicate 15 (news 1))).port .h0).notices.length = 15 ∧
    (let lost : Notice := { kind := .noticeLost, subject := 1, detail := 0 }
     ((withNotices (List.replicate 15 (news 1) ++ [lost])).port .h0).notices =
        List.replicate 15 (news 1) ++ [lost] ∧ lost.kind = .noticeLost) := by
  refine ⟨asking_takes .., asking_takes .., rfl, rfl, asking_takes .., by decide, asking_takes ..,
    ?_, rfl, rfl, by decide, by decide, by decide, rfl, rfl⟩
  intro mask e
  cases e
  decide

/-! ### Witnesses: arguments, requests and profiles -/

/-- The readers take arguments at the ends of their ranges (Tables 1-3 and 10-1, R124, R166). -/
theorem test_arguments_at_the_ends :
    submitArgs [0xFF, 0x01, 0x0F, 0x40, 0x3F, 0x03, 0x0F, 0xFF, 0xFF] =
      some { tag := 255, kind := .burst 65535 0, profile := 15, period := 64, preferredPhase := 63,
             priority := 3, missLimit := 15 } ∧
    submitArgs [0x01, 0x00, 0x00, 0x01, 0x00, 0x00, 0x00, 0x00, 0x01] = none ∧
    holdArg [0x00, 0x0A] = some 10 ∧ holdArg [0x00, 0x09] = none ∧
    configArgs [0x03, 0x00, 0x40] = some (.width 64) ∧ configArgs [0x03, 0x00, 0x48] = none ∧
    configArgs [0x02, 0x7F] = some (.address 0x7F) ∧ configArgs [0x02, 0x80] = none ∧
    sensorReadArgs [0x30, 0x00, 0x03] = some (.read 0x3000 3) ∧
    sensorReadArgs [0x30, 0x00, 0x04] = none ∧
    setStepsArgs [0x05, 0x01, 0xFD, 0xC0] = some (5, [{ shift := -3, offset := -64 }]) ∧
    setStepsArgs [0x05, 0x01, 0xFC, 0x00] = none := by decide

theorem witness_CommandsCheckTheirPortAndArgumentsFirst :
    CommandCode.cancel ≠ .attach ∧ CommandCode.cancel ≠ .getStatus ∧
    ((askingDetached State.reset .cancel []).port .h0).waitingCommand .cancel =
      some (cmdOf .cancel []) ∧
    ((askingDetached State.reset .cancel []).port .h0).attached = false ∧
    ({ cmdOf .cancel [] with stale := true }).stale = true ∧
    (∀ c args, Takes (asking State.reset c args) .h0 c (cmdOf c args)) ∧
    (submitArgs [] = none ∧ tagArg [0x00] = none ∧ profileArg [0x10] = none ∧
    setExposureArgs [0x00, 0x00, 0x00, 0x00, 0x09, 0x00, 0x10] = none ∧ setLimitsArgs [] = none ∧
    setTargetArgs [0x00, 0x00, 0x3F, 0x04] = none ∧ setWindowArgs 1280 960 [] = none ∧
    setStepsArgs [0x00, 0x00] = none ∧ shareArgs [0x00, 0x02] = none ∧
    setModeArgs [0x00, 0x02] = none ∧ readSlotArgs [0x00, 0x40] = none ∧ ackArg [] = none ∧
    holdArg [0x00, 0x09] = none ∧ configArgs [0x07] = none ∧ quotaArgs [0x04, 0x00, 0x00] = none ∧
    sensorReadArgs [0x00, 0x00, 0x00] = none ∧ sensorWriteArgs [0x00, 0x00] = none ∧
    setMapArgs [0x06, 0x00, 0x00, 0x00] = none) ∧
    (∀ mask : Byte, [(0x08 : Byte)] = [mask] → 7 < mask.toNat) ∧ [(0x00 : Byte)] ≠ [] := by
  refine ⟨by decide, by decide, by decide, rfl, rfl, fun _ _ => asking_takes .., by decide, ?_,
    by decide⟩
  intro mask e; cases e; decide

/-- A SUBMIT of host 0: tag 1, a STREAM on profile 0 with period 1. -/
def wanted : List Byte := [0x01, 0x00, 0x00, 0x01, 0x00, 0x00, 0x00, 0x00, 0x00]

/-- The part with a request of host 1 at the admission sequence that would come next. -/
def beforeSubmit : State :=
  shelf plain [{ wish .h1 2 .pending with sequence := 11 }]

theorem witness_SubmitAdmits :
    let a : SubmitArgs :=
      { tag := 1, kind := .stream, profile := 0, period := 1, preferredPhase := 0, priority := 0,
        missLimit := 0 }
    let s := asking beforeSubmit .submit wanted
    Takes s .h0 .submit (cmdOf .submit wanted) ∧ submitArgs (cmdOf .submit wanted).args = some a ∧
    (∀ r ∈ s.requests.table, ¬(r.owner = .h0 ∧ r.tag = a.tag)) ∧
    s.profile a.profile = some { plain with references := 1 } ∧ plain.life = .live .h0 ∧
    plain.steps.length ≤ a.period ∧
    (s.requestsOf .h0).length < (s.engine.quotas.get .h0).requests ∧ s.requests.table.length < 32 ∧
    (12 : BitVec 32) = s.requests.counter + 1 + BitVec.ofNat 32 1 ∧
    (∀ r ∈ s.requests.table, r.sequence ≠ 12) ∧ 1 < 32 ∧
    (∀ j < 1, ∃ r ∈ s.requests.table, r.sequence = s.requests.counter + 1 + BitVec.ofNat 32 j) :=
  ⟨asking_takes .., rfl, by decide, rfl, rfl, by decide, by decide, by decide, rfl, by decide,
    by decide, by decide⟩

/-- A profile of host 1 alone, and a bracket of two steps. -/
def foreign : Profile := { plain with sharing := .ownerOnly, life := .live .h1 }
def bracket : Profile :=
  { plain with steps := [{ shift := 0, offset := 0 }, { shift := 1, offset := 0 }] }

theorem witness_SubmitIsRefused :
    let many := fun (h : HostId) (n : Nat) => (List.range n).map fun i => wish h (i + 2) .pending
    (∃ r ∈ (asking (busy plain) .submit wanted).requests.table, r.owner = .h0 ∧ r.tag = 1) ∧
    (¬∃ r ∈ State.reset.requests.table, r.owner = .h0 ∧ r.tag = 1) ∧ State.reset.profile 0 = none ∧
    (shelf foreign []).profile 0 = some foreign ∧
    ¬(foreign.life = .live .h0 ∨ (foreign.sharing = .shared ∧ foreign.life ≠ .orphaned)) ∧
    (shelf bracket []).profile 0 = some bracket ∧ bracket.life = .live .h0 ∧
    1 < bracket.steps.length ∧
    (let s := shelf plain (many .h0 8)
     (¬∃ r ∈ s.requests.table, r.owner = .h0 ∧ r.tag = 1) ∧
      (s.engine.quotas.get .h0).requests ≤ (s.requestsOf .h0).length) ∧
    (let s := shelf plain (many .h1 32)
     ¬((s.engine.quotas.get .h0).requests ≤ (s.requestsOf .h0).length) ∧
      32 ≤ s.requests.table.length) := by decide

theorem witness_CancelFreesTheRequest :
    let s := asking (busy plain) .cancel [0x01]
    Takes s .h0 .cancel (cmdOf .cancel [0x01]) ∧ tagArg (cmdOf .cancel [0x01]).args = some 1 ∧
    RequestsOk s ∧ wish .h0 1 (.active 0) ∈ s.requests.table ∧
    s.profile (wish .h0 1 (.active 0)).profile = some { plain with references := 2 } ∧
    (asking (busy lent) .cancel [0x01]).profile 0 = some { lent with references := 2 } ∧
    (let orphan : Profile := { plain with life := .orphaned }
     (asking (shelf orphan [wish .h0 1 .pending]) .cancel [0x01]).profile 0 =
      some { orphan with references := 1 }) ∧
    (∀ r ∈ State.reset.requests.table, ¬(r.owner = .h0 ∧ r.tag = 1)) :=
  ⟨asking_takes .., rfl, requestsOk_of (busy_requestsOk plain) rfl, by decide, rfl, rfl, rfl, by decide⟩

theorem one_requestsOk (p : Profile) (h : HostId) (state : RequestState) :
    RequestsOk (shelf p [wish h 1 state]) := by
  refine ⟨by simp [shelf], by simp [shelf], by simp [shelf], ?_⟩
  intro r mem
  simp only [shelf, List.mem_cons, List.not_mem_nil, or_false] at mem
  rcases mem with rfl
  exact ⟨by simp [wish], rfl, by simp [wish], by simp [wish], by simp [wish], by simp [wish],
    by simp [wish]⟩

theorem witness_ResumeMakesASuspendedRequestPending :
    let s := fun state => asking (shelf plain [wish .h0 1 state]) .resume [0x01]
    (∀ state, Takes (s state) .h0 .resume (cmdOf .resume [0x01]) ∧ RequestsOk (s state) ∧
      wish .h0 1 state ∈ (s state).requests.table) ∧
    tagArg (cmdOf .resume [0x01]).args = some 1 ∧
    (wish .h0 1 .waiting).state ≠ .suspended ∧ (wish .h0 1 .suspended).state = .suspended ∧
    (∀ r ∈ (asking State.reset .resume [0x01]).requests.table, ¬(r.owner = .h0 ∧ r.tag = 1)) :=
  ⟨fun state => ⟨asking_takes .., requestsOk_of (one_requestsOk plain .h0 state) rfl, by
      simp [asking, shelf]⟩, rfl, by decide, rfl, by decide⟩

theorem witness_RequestsAreQueriedAndListed :
    (let s := asking (busy plain) .queryRequest [0x01]
     (s.port .h0).waitingCommand .queryRequest = some (cmdOf .queryRequest [0x01]) ∧
      (s.port .h0).attached = true ∧ [(0x01 : Byte)] = beBytes 1 1 ∧ [(0xFF : Byte)] = beBytes 1 255 ∧
      wish .h0 1 (.active 0) ∈ s.requests.table ∧
      (∀ q ∈ s.requests.table, q.owner = .h0 → q.tag = 1 → q = wish .h0 1 (.active 0)) ∧
      (∀ r ∈ s.requests.table, ¬(r.owner = .h0 ∧ r.tag = 255))) ∧
    ((askingDetached (busy plain) .queryRequest [0x01]).port .h0).attached = false ∧
    (¬∃ tag, [(0x00 : Byte)] = beBytes 1 tag ∧ 1 ≤ tag ∧ tag ≤ 255) ∧
    (let s := asking (busy plain) .listRequests [0x01]
     (s.port .h0).waitingCommand .listRequests = some (cmdOf .listRequests [0x01]) ∧
      (s.port .h0).attached = true ∧ RequestsOk s) := by
  refine ⟨by decide, rfl, ?_, rfl, rfl, requestsOk_of (busy_requestsOk plain) rfl⟩
  rintro ⟨tag, e, low, high⟩
  have := congrArg (fun l => (l.map BitVec.toNat)) e
  simp [beBytes] at this
  omega

theorem witness_MissesAreChargedAndSuspend :
    RequestsOk (busy plain) ∧ CalendarOk (busy plain) ∧ [1, 2].Nodup :=
  ⟨busy_requestsOk plain, busy_calendarOk plain, by decide⟩

/-- The part with every entry of the profile table holding one profile. -/
def filled (p : Profile) : State := { State.reset with profiles := Vector.replicate 16 (some p) }

theorem witness_ProfilesAreCreated :
    let owned := fun (s : State) => (allProfileIds.filter fun id =>
      (s.profile id).any fun p => p.life == .live .h0).length
    let four : State :=
      { State.reset with
        profiles := #v[some plain, some plain, some plain, some plain, none, none, none, none, none,
          none, none, none, none, none, none, none] }
    Takes (asking four .createProfile []) .h0 .createProfile (cmdOf .createProfile []) ∧
    (four.engine.quotas.get .h0).profiles ≤ owned four ∧
    owned (filled foreign) < ((filled foreign).engine.quotas.get .h0).profiles ∧
    (∀ id, (filled foreign).profile id ≠ none) ∧
    (let s := shelf plain []
     owned s < (s.engine.quotas.get .h0).profiles ∧ s.profile 1 = none ∧
      ∀ j < 1, s.profile j ≠ none) :=
  ⟨asking_takes .., by decide, by decide, by decide, by decide⟩

/-- A profile in a tune. -/
def tuned : Profile := { plain with mode := .tuning { converge := 0, tuneFrames := 0 } }

theorem witness_ProfilesAreEdited :
    (∀ c args, Takes (asking (shelf plain []) c args) .h0 c (cmdOf c args)) ∧
    (shelf plain []).profile 0 = some plain ∧ plain.life = .live .h0 ∧ plain.references = 0 ∧
    plain.mode = .manual ∧ profileArg [0x00] = some 0 ∧
    (setExposureArgs [0x00, 0x00, 0x00, 0x00, 0x0A, 0x01, 0x00] = some (0, 10, 256) ∧
    setLimitsArgs [0x00, 0, 0, 0, 0x0A, 0, 0x0F, 0x42, 0x40, 0, 0x10, 0x01, 0x00] =
      some (0, { exposureMin := 10, exposureMax := 1000000, gainMin := 16, gainMax := 256 }) ∧
    setTargetArgs [0x00, 0x00, 0x40, 0x80] = some (0, 64, 128) ∧
    setWindowArgs 1280 960 [0x00, 0x04, 0xC0, 0x03, 0xB8, 0x00, 0x40, 0x00, 0x08] =
      some (0, { x := 1216, y := 952, width := 64, height := 8 }) ∧
    setStepsArgs [0x00, 0x01, 0x03, 0x40] = some (0, [{ shift := 3, offset := 64 }]) ∧
    [({ shift := 3, offset := 64 } : BracketStep)].length = plain.steps.length ∧
    shareArgs [0x00, 0x00] = some (0, .ownerOnly)) ∧
    (∀ r ∈ (shelf plain [wish .h0 1 .pending]).requests.table, r.profile = 0 → r.owner = .h0) ∧
    setModeArgs [0x00, 0x01] = some (0, .auto) ∧ (∀ loop, plain.mode ≠ .tuning loop) ∧
    (∃ r ∈ (busy plain).requests.table, r.profile = 0 ∧ r.isActive = true) :=
  ⟨fun _ _ => asking_takes .., rfl, rfl, rfl, rfl, rfl, by decide, by decide, rfl,
    fun _ e => (by cases e), by decide⟩

theorem witness_EditsAreRefusedInOrder :
    (∀ s c args, Takes (asking s c args) .h0 c (cmdOf c args)) ∧ State.reset.profile 0 = none ∧
    (shelf foreign []).profile 0 = some foreign ∧ foreign.life ≠ .live .h0 ∧
    (busy plain).profile 0 = some { plain with references := 2 } ∧
    setStepsArgs [0x00, 0x02, 0, 0, 0, 0] =
      some (0, [{ shift := 0, offset := 0 }, { shift := 0, offset := 0 }]) ∧
    [({ shift := 0, offset := 0 } : BracketStep), { shift := 0, offset := 0 }].length ≠
      plain.steps.length ∧
    shareArgs [0x00, 0x00] = some (0, .ownerOnly) ∧ plain.sharing = .shared ∧
    (∃ r ∈ (busy plain).requests.table, r.profile = 0 ∧ r.owner ≠ .h0) ∧
    (busy tuned).profile 0 = some { tuned with references := 2 } ∧ tuned.life = .live .h0 ∧
    tuned.mode = .tuning { converge := 0, tuneFrames := 0 } ∧ tuned.mode ≠ .manual ∧
    (∀ r ∈ (shelf plain [wish .h0 1 .waiting]).requests.table, r.profile = 0 →
      r.isActive = false) :=
  ⟨fun _ _ _ => asking_takes .., rfl, rfl, by decide, rfl, rfl, by decide, rfl, rfl, by decide, rfl,
    rfl, rfl, by decide, by decide⟩

theorem witness_ReadCommandsAnswerTheirBytes :
    (∀ c ∈ [CommandCode.readProfile, .getCalendarInfo, .readConfig], ∀ args ∈ [[], [(0x00 : Byte)], [0x10]],
      ((asking (shelf plain []) c args).port .h0).waitingCommand c = some (cmdOf c args) ∧
      ((asking (shelf plain []) c args).port .h0).attached = true ∧
      ((askingDetached (shelf plain []) c args).port .h0).waitingCommand c = some (cmdOf c args) ∧
      ((askingDetached (shelf plain []) c args).port .h0).attached = false) ∧
    [(0x00 : Byte)] = [BitVec.ofNat 8 (0 : Fin 16).val] ∧
    (¬∃ id : Fin 16, [(0x10 : Byte)] = [BitVec.ofNat 8 id.val]) ∧
    (shelf plain []).profile 0 = some plain ∧ State.reset.profile 0 = none := by decide

/-- A frame of profile 0 at its present values, with a mean. -/
def frameOf (mean : Nat) : FrameContext :=
  { frame901 with
    profile := 0, exposure := 10000, gain := 16
    statistics := some { mean := mean, histogram := Vector.replicate 8 128, clipShare := 0 } }

theorem witness_LoopStepsAndTunesEnd :
    (let s := shelf { plain with mode := .auto { converge := 0, tuneFrames := 0 } } []
     s.profile (frameOf 480).profile =
        some { plain with mode := .auto { converge := 0, tuneFrames := 0 } } ∧
      plain.gainMin ≤ plain.gainMax ∧ s.link.description.readout + 110 ≤ s.engine.slotPeriod) ∧
    (frameOf 480).stepIndex = 0 ∧ (frameOf 480).sizeMismatch = false ∧
    plain.steps = [{ shift := 0, offset := 0 }] ∧
    (frameOf 480).exposure = max 10 (min 17233 (plain.baseExposure * 2 ^ 0)) ∧
    ((frameOf 480).gain : Int) = max 16 (min 256 ((plain.baseGain : Int) + 0)) ∧
    (∃ x, (frameOf 480).statistics = some x ∧ ¬(32 < max x.mean 512 - min x.mean 512)) ∧
    (∃ x, (frameOf 479).statistics = some x ∧ 32 < max x.mean 512 - min x.mean 512) ∧
    ¬((frameOf 480).stepIndex = 0 ∧ FrameOutcome.dropped .late = .normal) ∧
    (2 : Nat) < 3 ∧ (31 : Nat) < 32 ∧ plain.life = .live .h0 ∧ (3 : Nat) ≤ 3 ∧
    (busy tuned).profile 0 = some { tuned with references := 2 } ∧
    tuned.mode = .tuning { converge := 0, tuneFrames := 0 } ∧
    (∃ r ∈ (busy tuned).requests.table, r.profile = 0 ∧ r.isActive = true) ∧
    (∀ r ∈ (shelf tuned [wish .h0 1 .waiting]).requests.table, r.profile = 0 →
      r.isActive = false) ∧
    (shelf { tuned with life := .orphaned } []).profile 0 = some { tuned with life := .orphaned } :=
  ⟨by decide, rfl, rfl, rfl, rfl, rfl, ⟨_, rfl, by decide⟩, ⟨_, rfl, by decide⟩, by decide, by decide,
    by decide, rfl, by decide, rfl, rfl, by decide, by decide, rfl⟩

/-! ### Witnesses: the calendar -/

/-- A shadow of one slot that serves H0/1. -/
def shadow1 : Shadow :=
  { slots := [.assigned 0 0 [{ host := .h0, tag := 1 }]]
    placed := [{ owner := .h0, tag := 1, phase := 0 }], unplaced := 0 }

theorem witness_RebuildTriggersAndSlotsAreRead :
    (∀ s c args, Takes (asking s c args) .h0 c (cmdOf c args)) ∧ (cmdOf .rebuild []).args = [] ∧
    readSlotArgs [0x00, 0x00] = some (false, 0) ∧ readSlotArgs [0x01, 0x00] = some (true, 0) ∧
    readSlotArgs [0x00, 0x01] = some (false, 1) ∧ State.reset.calendar.active.length ≤ 1 ∧
    State.reset.calendar.active[(0 : Nat)]? = some .idle ∧
    (busy plain).calendar.active[(0 : Nat)]? = some (.assigned 0 0 [{ host := .h0, tag := 1 }]) ∧
    ({ State.reset with calendar.builder := .ready shadow1 }).calendar.builder = .ready shadow1 ∧
    (∀ sh, State.reset.calendar.builder ≠ .ready sh) :=
  ⟨fun _ _ _ => asking_takes .., rfl, by decide, by decide, by decide, by decide, rfl, rfl, rfl,
    fun _ e => (by cases e)⟩

/-- Host 0, attached, owns tag 1, and a build of it is under way. -/
def building (stale : Bool) : State :=
  let s := shelf plain [wish .h0 1 .pending]
  { s.setPort .h0 (attached0.port .h0) with
    calendar.builder := .building [candidate .h0 1 0 1 1 0 0 1] stale 0 }

theorem witness_BuildCompleteEndsOrRestartsTheBuild :
    (∀ stale, (building stale).calendar.builder =
      .building [candidate .h0 1 0 1 1 0 0 1] stale 0) ∧
    (let s := building false
     let told := fun g => (s.port g).attached = true ∧ ∃ c ∈ [candidate .h0 1 0 1 1 0 0 1],
       c.owner = g ∧ ∃ r ∈ s.requests.table, r.owner = g ∧ r.tag = c.tag ∧ r.sequence = c.sequence
     told .h0 ∧ ¬told .h1) := by
  refine ⟨fun _ => rfl, ?_⟩
  decide

theorem candidate_ok {h : HostId} {tag : Nat} {profile : Fin 16} {k period phase priority : Nat}
    {sequence : BitVec 32} (isP : isPeriod period = true) (low : 1 ≤ k) (high : k ≤ period) :
    CandidateOk (candidate h tag profile k period phase priority sequence) :=
  ⟨isP, ⟨low, high⟩, fun _ e => by cases e⟩

theorem witness_CandidatesArePlacedAtTheirFirstFit :
    let c := candidate .h0 1 0 1 1 0 0 1
    let first := candidate .h1 2 0 1 1 0 0 0
    [first, c].Perm [c, first] ∧
    [first, c].Pairwise (fun a b =>
      a.priority < b.priority ∨ (a.priority = b.priority ∧ a.sequence < b.sequence)) ∧
    CandidateOk c ∧ c.period ∣ [Slot.idle].length ∧
    (∀ (n : Nat) (slot : Slot), 0 ≤ n % 1 ∧ n % 1 < 0 + 1 → [Slot.idle][n]? = some slot → slot = .idle) ∧
    (∀ phase : Nat, ¬(phase + 1 ≤ 1 ∧ ∀ (n : Nat) (slot : Slot), phase ≤ n % 1 ∧ n % 1 < phase + 1 →
      [Slot.assigned 7 0 [{ host := .h2, tag := 4 }]][n]? = some slot →
      slot = .idle ∨ ∃ subscribers, slot = .assigned 0 (n % 1 - phase) subscribers ∧
        subscribers.length < 4)) := by
  refine ⟨List.Perm.swap .., by decide, candidate_ok rfl (by decide) (by decide), by decide, ?_, ?_⟩
  · intro n slot _ e
    cases n with
    | zero => simpa using e.symm
    | succ n => simp at e
  · rintro phase ⟨le, fits⟩
    obtain rfl : phase = 0 := by omega
    rcases fits 0 _ (by decide) rfl with e | ⟨_, e, _⟩ <;> cases e

/-- The candidates of section 3.10. -/
def bracketCandidates : List Candidate :=
  [candidate .h3 2 5 3 4 10 2 205, candidate .h0 6 5 3 8 0 1 204, candidate .h2 3 9 1 8 6 1 203,
    candidate .h1 7 5 3 8 3 1 202, candidate .h0 1 2 1 4 1 0 201]

theorem witness_EveryBuildMakesASoundCalendar :
    (∀ c ∈ bracketCandidates, CandidateOk c) ∧
    bracketCandidates.Pairwise (fun a b => ¬(a.owner = b.owner ∧ a.tag = b.tag)) ∧
    (let sh := buildShadow bracketCandidates
     sh.slots[2]? =
        some (.assigned 5 0 [{ host := .h1, tag := 7 }, { host := .h0, tag := 6 }]) ∧
      { owner := .h0, tag := 6, phase := 2 : Placed } ∈ sh.placed ∧ 2 < sh.slots.length ∧
      2 % (candidate .h0 6 5 3 8 0 1 204).period = 2 + 0) := by
  refine ⟨?_, by decide, by decide +kernel⟩
  simp only [bracketCandidates, List.mem_cons, List.not_mem_nil, or_false]
  rintro c (rfl | rfl | rfl | rfl | rfl) <;> exact candidate_ok rfl (by decide) (by decide)

theorem witness_SwapReplacesTheCalendar :
    let s := shelf plain [wish .h0 1 .pending]
    RequestsOk s ∧ [wish .h0 1 .pending].Perm (s.requests.table.filter fun r => r.state != .suspended) ∧
    [wish .h0 1 .pending].Pairwise (fun a b =>
      a.priority < b.priority ∨ (a.priority = b.priority ∧ a.sequence < b.sequence)) :=
  ⟨one_requestsOk plain .h0 .pending, .refl _, by decide⟩

/-! ### Witnesses: records and reports -/

/-- The record of a frame for H0/1. -/
def recordOf (number arrival : BitVec 32) : Record :=
  { frameNumber := number, generation := 0, slotIndex := 0, profile := 0, stepIndex := 0, tags := [1]
    exposure := 10000, gain := 16, outcome := .dropped .late, clamped := false, tuning := false
    sizeMismatch := false, lost := none, statistics := none, arrival := arrival }

/-- Host 0's queue with records, at a time of the record clock. -/
def withRecords (queue : List Record) (last : BitVec 32) (clock : BitVec 32) (limit : Nat) : State :=
  { State.reset.setMailbox .h0
      { queue := queue, pendingLoss := 255, lastDiscarded := last, holdLimit := limit } with
    delivery.clock := clock }

theorem withRecords_clock (queue : List Record) (last clock : BitVec 32) (limit : Nat) :
    (withRecords queue last clock limit).delivery.clock = clock := rfl

theorem witness_HeadRecordsAreReadAndAcknowledged :
    (∀ s, ((asking s .fetchRecord []).port .h0).waitingCommand .fetchRecord =
        some (cmdOf .fetchRecord [])) ∧
    (∀ s args, ((asking s .ackRecord args).port .h0).waitingCommand .ackRecord =
        some (cmdOf .ackRecord args)) ∧
    (∀ s c args, ((asking s c args).port .h0).attached = true ∧ (cmdOf c args).stale = false) ∧
    ((askingDetached State.reset .fetchRecord []).port .h0).attached = false ∧
    (State.reset.mailbox .h0).queue = [] ∧
    ((withRecords [recordOf 901 0] 900 0 0).mailbox .h0).queue = recordOf 901 0 :: [] ∧
    [(0x00 : Byte)].length ≠ 4 ∧
    ([(0x00 : Byte), 0x00, 0x03, 0x85] = beBytes 4 (901 : BitVec 32).toNat) ∧
    (let expired := fun (m : Mailbox) (number : BitVec 32) =>
      (∀ r ∈ m.queue, r.frameNumber ≠ number) ∧ ¬Above number m.lastDiscarded
     let m := (withRecords [recordOf 901 0] 900 0 0).mailbox .h0
     (∀ r ∈ m.queue.head?, r.frameNumber ≠ 900) ∧ expired m 900 ∧ ¬expired m 902 ∧ m.queue ≠ [] ∧
      ¬expired (State.reset.mailbox .h0) 1) := by
  refine ⟨fun s => (asking_takes s .fetchRecord []).1, fun s args => (asking_takes s .ackRecord args).1,
    fun s c args => (asking_takes s c args).2, rfl, rfl, rfl, by decide, by decide, ?_⟩
  unfold Above
  decide

theorem witness_HoldsDiscardTheRecordsTheyRunOutOn :
    let ranOut := fun (s : State) (limit : Nat) (r : Record) =>
      limit != 0 && decide (limit * 1000 ≤ (s.delivery.clock - r.arrival).toNat)
    let s := withRecords [recordOf 901 0, recordOf 902 1] 900 10000 10
    let old := withRecords [recordOf 901 10000, recordOf 902 0] 900 10000 10
    (s.mailbox .h0).pendingLoss ≤ 255 ∧
    Takes (asking s .setHold [0x00, 0x0A]) .h0 .setHold (cmdOf .setHold [0x00, 0x0A]) ∧
    holdArg [0x00, 0x0A] = some 10 ∧
    (s.mailbox .h0).queue.filter (ranOut s 10) = [recordOf 901 0] ∧
    (s.mailbox .h0).queue = [] ++ recordOf 901 0 :: [recordOf 902 1] ∧
    ranOut s (s.mailbox .h0).holdLimit (recordOf 901 0) = true ∧
    (old.mailbox .h0).queue = [recordOf 901 10000] ++ recordOf 902 0 :: [] ∧
    (∀ x ∈ [recordOf 901 10000], ranOut old (old.mailbox .h0).holdLimit x = false) ∧
    ranOut old (old.mailbox .h0).holdLimit (recordOf 902 0) = true ∧
    (let early := withRecords [recordOf 901 0] 900 9999 10
     ∀ r ∈ (early.mailbox .h0).queue, ranOut early (early.mailbox .h0).holdLimit r = false) :=
  ⟨by decide, asking_takes .., by decide, by decide, rfl, by decide, rfl, by decide, by decide, by decide⟩

theorem witness_RecordsJoinOrAreLost :
    let tags := fun (s : State) => (frame901.subscribers.filter fun p => p.host == .h0 && isLive s p).map (·.tag)
    tags State.reset = [] ∧ tags (busy plain) ≠ [] ∧
    (∀ n ∈ [7, 8],
      tags ((busy plain).setMailbox .h0
        { queue := List.replicate n (recordOf 1 0), pendingLoss := 0, lastDiscarded := 0
          holdLimit := 0 }) ≠ []) ∧
    (List.replicate 7 (recordOf 1 0)).length < 8 ∧ 8 ≤ (List.replicate 8 (recordOf 1 0)).length := by
  decide

/-! ### Witnesses: Engine Control -/

/-- The part with the claim held by host 0. -/
def claimed (s : State) : State := { s with engine.claim := some { holder := .h0, timer := 5000000 } }

theorem witness_ClaimIsGivenReleasedAndExpires :
    (∀ s c, Takes (asking s c []) .h0 c (cmdOf c [])) ∧
    (∀ c, State.reset.engine.claim = some c → c.holder = .h0) ∧
    (claimed State.reset).engine.claim = some { holder := .h0, timer := 5000000 } ∧
    ({ State.reset with engine.claim := some { holder := .h1, timer := 1 } }).engine.claim =
      some { holder := .h1, timer := 1 } ∧ HostId.h1 ≠ .h0 ∧
    (∀ c, State.reset.engine.claim = some c → c.holder ≠ .h0) ∧
    ({ State.reset with engine.claim := some { holder := .h1, timer := 0 } }).engine.claim =
      some { holder := .h1, timer := 0 } ∧
    (∀ c, ({ State.reset with engine.claim := some { holder := .h1, timer := 1 } }).engine.claim =
      some c → 0 < c.timer) :=
  ⟨fun _ _ => asking_takes .., fun _ e => (by cases e), rfl, rfl, by decide, fun _ e => (by cases e),
    rfl, fun _ e => (by cases e; decide)⟩

theorem witness_ConfigurationTakesTheValuesGiven :
    let s := claimed State.reset
    (∀ c args, Takes (asking s c args) .h0 c (cmdOf c args) ∧
      (asking s c args).engine.claim = some { holder := .h0, timer := 5000000 } ∧
      (asking s c args).engine.state = .stopped) ∧
    configArgs [0x01, 0x00, 0x64] = some (.claimExpiry 100) ∧
    configArgs [0x04, 0x10, 0x00] = some (.height 4096) ∧
    setMapArgs [0x05, 0x30, 0x0A, 0x03] = some (.cropH, { register := 0x300A, count := 3 }) ∧
    quotaArgs [0x03, 0x08, 0x04] = some (.h3, { requests := 8, profiles := 4 }) ∧
    (let total := fun part : Quota → Nat =>
      (allHosts.map fun x => if x = .h3 then part { requests := 8, profiles := 4 }
        else part (s.engine.quotas.get x)).sum
     total Quota.requests ≤ 32 ∧ total Quota.profiles ≤ 16 ∧ (s.requestsOf .h3).length ≤ 8 ∧
      (allProfileIds.filter fun id => (s.profile id).any fun p => p.life == .live .h3).length ≤ 4) :=
  ⟨fun _ _ => ⟨asking_takes .., rfl, rfl⟩, by decide, by decide, by decide, by decide, by decide⟩

/-- The part with the engine in a state. -/
def engineIn (state : EngineState) : State := { State.reset with engine.state := state }

theorem witness_ClaimedCommandsAreRefusedInOrder :
    (∀ s c args, Takes (asking s c args) .h0 c (cmdOf c args)) ∧
    configArgs [0x02, 0x36] = some (.address 0x36) ∧
    setMapArgs [0x00, 0x30, 0x12, 0x02] = some (.exposure, { register := 0x3012, count := 2 }) ∧
    quotaArgs [0x00, 0x09, 0x04] = some (.h0, { requests := 9, profiles := 4 }) ∧
    sensorReadArgs [0x30, 0x00, 0x01] = some (.read 0x3000 1) ∧
    sensorWriteArgs [0x30, 0x00, 0x01] = some (.write 0x3000 [0x01]) ∧
    (¬∃ claim, State.reset.engine.claim = some claim ∧ claim.holder = .h0) ∧
    (∃ claim, (claimed (engineIn .running)).engine.claim = some claim ∧ claim.holder = .h0) ∧
    (claimed (engineIn .running)).engine.state = .running ∧
    (claimed (engineIn .stopping)).engine.state = .stopping ∧
    (claimed State.reset).engine.state ≠ .running ∧
    (let total := fun (q : Quota) (part : Quota → Nat) =>
      (allHosts.map fun x => if x = .h0 then part q else part (State.reset.engine.quotas.get x)).sum
     ¬(total { requests := 9, profiles := 4 } Quota.requests ≤ 32) ∧
      total { requests := 0, profiles := 0 } Quota.requests ≤ 32 ∧
      total { requests := 0, profiles := 0 } Quota.profiles ≤ 16) ∧
    0 < ((busy plain).requestsOf .h0).length :=
  ⟨fun _ _ _ => asking_takes .., by decide, by decide, by decide, by decide, by decide,
    fun ⟨_, e, _⟩ => (by cases e), ⟨_, rfl, rfl⟩, rfl, rfl, by decide, by decide, by decide⟩

theorem witness_StartTakesUpANewRun :
    (∀ s, Takes (asking (claimed s) .start []) .h0 .start (cmdOf .start []) ∧
      (asking (claimed s) .start []).engine.claim = some { holder := .h0, timer := 5000000 }) ∧
    (claimed State.reset).engine.state = .stopped ∧
    (let s : State := { State.reset with engine.slotPeriod := 16109 }
     s.engine.slotPeriod < s.link.description.readout + 110) ∧
    (let s : State := { State.reset with engine.slotPeriod := 16110 }
     ¬(s.engine.slotPeriod < s.link.description.readout + 110) ∧ ∀ id, s.profile id = none) ∧
    (let s := shelf { plain with window := { x := 16, y := 0, width := 1280, height := 960 } } []
     s.profile 0 =
        some { plain with window := { x := 16, y := 0, width := 1280, height := 960 } } ∧
      s.link.description.width < 16 + 1280) ∧
    (shelf plain []).link.description.width = 0 + 1280 :=
  ⟨fun _ => ⟨asking_takes .., rfl⟩, rfl, by decide, by decide, by decide, rfl⟩

/-- A frame in flight. -/
def inFlight (state : PresentState) : PresentFrame := { state := state, context := frameOf 512 }

/-- A running part with a frame in the present-slot place. -/
def flying (state : PresentState) : State :=
  { engineIn .running with
    sequencer :=
      { State.reset.sequencer with
        slotTimer := some 33333, position := .slot 0, present := some (inFlight state) } }

theorem witness_StopEndsAtOnceOrWaitsForTheFrame :
    (∀ s, Takes (asking (claimed s) .stop []) .h0 .stop (cmdOf .stop []) ∧
      (asking (claimed s) .stop []).engine.claim = some { holder := .h0, timer := 5000000 }) ∧
    (claimed (engineIn .running)).engine.state = .running ∧
    (claimed (engineIn .running)).sequencer.present = none ∧
    (claimed (flying .exposing)).engine.state = .running ∧
    (claimed (flying .exposing)).sequencer.present = some (inFlight .exposing) :=
  ⟨fun _ => ⟨asking_takes .., rfl⟩, rfl, rfl, rfl, rfl⟩

theorem witness_FaultsHaltARunningEngine :
    ¬runs State.reset ∧ runs (flying .exposing) ∧ (flying .exposing).engine.stopWaiting = none ∧
    (let s : State :=
      { engineIn .stopping with
        engine := { State.reset.engine with state := .stopping, stopWaiting := some (.h0, 0) } }
     runs s ∧ s.engine.stopWaiting = some (.h0, 0)) :=
  ⟨(by rintro (e | e) <;> cases e), .inl rfl, rfl, .inr rfl, rfl⟩

/-! ### Witnesses: the Sensor Link -/

/-- A setup of the whole sensor. -/
def setup0 : SetupRequest :=
  { setup := 0, exposure := 5000, gain := 16, window := { x := 0, y := 0, width := 1280, height := 960 } }

/-- A write of that setup. -/
def write0 (kind : ParamKind) : RegisterWrite :=
  { kind := kind, value := 300, register := 0x3012, count := 2 }

/-- The work of that setup. -/
def setupWork (writes : List RegisterWrite) (retry : Bool) (bus : Option Transaction) : SetupWork :=
  { setup := 0, writes := writes, retry := retry, bus := bus, left := 0 }

/-- The part with its link in a state and work that waits. -/
def linked (l : LinkState) (w : Option WaitingWork) : State :=
  { State.reset with link := { State.reset.link with state := l, waiting := w } }

/-- A drain of a write of that setup. -/
def drain0 : DrainWork := { bus := onBus (.write [0x01, 0x2C]), records := some (.exposure, 300) }

theorem witness_SetupsWriteWhatDiffersFromTheShadow :
    let needed := fun (s : State) (k : ParamKind) (fits : Nat) =>
      (s.link.map.get k).count != 0 && s.link.shadow.get k != some fits
    let mapped : State :=
      { State.reset with
        link :=
          { State.reset.link with map := State.reset.link.map.set .gain { register := 0x3060, count := 1 } } }
    0 < State.reset.link.description.lineTime ∧ State.reset.link.state = .idle ∧
    [ParamKind.exposure, .gain, .cropX, .cropY, .cropW, .cropH].filter
      (fun k => needed State.reset k 0) = [] ∧
    mapped.link.state = .idle ∧ needed mapped .gain 16 = true ∧
    (linked (.draining drain0) none).link.state = .draining drain0 := by decide

/-- A context of that setup in the next-slot place. -/
def nextOf (state : NextState) : NextFrame := { state := state, setup := 0, context := frameOf 512 }

/-- The part with a context in the next-slot place. -/
def withNext (state : NextState) (s : State) : State := s.setNext (some (nextOf state))

theorem witness_SetupsAreAnsweredAndEnded :
    (withNext .setup State.reset).sequencer.next = some (nextOf .setup) ∧
    (nextOf .setup).state = .setup ∧ (nextOf .setup).setup = 0 ∧
    (∀ f, (withNext .armed State.reset).sequencer.next = some f → f.state = .armed ∨ f.setup ≠ 0) ∧
    (let w := setupWork [write0 .exposure] false (some (onBus (.write [0x01, 0x2C])))
     (linked (.setup w) none).link.state = .setup w ∧ w.setup = 0 ∧ w.writes = write0 .exposure :: [] ∧
      w.bus = some (onBus (.write [0x01, 0x2C]))) ∧
    (let w := setupWork [write0 .exposure] false none
     (linked (.setup w) none).link.state = .setup w ∧ w.bus = none ∧
      (linked (.setup w) none).link.waiting = none) ∧
    (linked (.draining drain0) (some (.setup setup0))).link.waiting = some (.setup setup0) ∧
    setup0.setup = 0 ∧
    (∀ w, (linked (.draining drain0) none).link.state = .setup w → w.setup ≠ 0) ∧
    (∀ r, (linked (.draining drain0) none).link.waiting = some (.setup r) → r.setup ≠ 0) ∧
    State.reset.sequencer.next = none :=
  ⟨rfl, rfl, rfl, fun _ e => (by cases e; exact .inl rfl), ⟨rfl, rfl, rfl, rfl⟩, ⟨rfl, rfl, rfl⟩, rfl,
    rfl, fun _ e => (by cases e), fun _ e => (by cases e), rfl⟩

theorem witness_TransactionsBeginAndSendTheirBytes :
    (linked (.setup (setupWork [write0 .exposure] false none)) none).link.state =
      .setup (setupWork [write0 .exposure] false none) ∧
    (setupWork [write0 .exposure] false none).bus = none ∧
    (linked (.direct (work0 none)) none).link.state = .direct (work0 none) ∧
    (work0 none).bus = none ∧ State.reset.link.state = .idle ∧
    (linked (.draining drain0) none).link.state = .draining drain0 := by decide

/-- A SENSOR_READ of two bytes at the reset address 36h, as R124 gives it: 6Ch, the register, 6Dh behind a repeated
start, and two bytes of which the FS-4 acknowledges the first alone; 57 bit times. -/
theorem test_sensor_read_on_the_bus :
    let t := onBus (.read 2)
    t.signals =
      [.start, .sent 0x6C, .sent 0x30, .sent 0x00, .repeatedStart, .sent 0x6D, .received true,
        .received false, .stop] ∧
    (t.signals.map BusSignal.bits).sum = 57 := by decide

/-- The GAIN write of Table 7-3 that meets a NACK on its data byte: j is 4, and it takes 38 bit times. -/
theorem test_refused_write_on_the_bus :
    let t := onBus (.write [0x10])
    t.refusedSignals 4 = [.start, .sent 0x6C, .sent 0x30, .sent 0x00, .sent 0x10, .stop] ∧
    ((t.refusedSignals 4).map BusSignal.bits).sum = 38 := by decide

/-- The clauses of TransactionsBeginAndSendTheirBytes over positions, at the ends of their ranges. -/
theorem witness_positions_of_a_refusal :
    (1 ≤ 1 ∧ 1 ≤ 3 + ([] : List Byte).length) ∧ (1 ≤ 6 ∧ 6 ≤ 3 + ([0, 0, 0] : List Byte).length) ∧
    (1 ≤ 1 ∧ 1 ≤ 3) ∧ (1 ≤ 3 ∧ 3 ≤ 3) := by decide

theorem witness_SetupWritesAndDrainsEndInTheShadow :
    (∀ rest retry,
      let w := setupWork (write0 .exposure :: rest) retry (some (onBus (.write [0x01, 0x2C])))
      (linked (.setup w) none).link.state = .setup w ∧ w.writes = write0 .exposure :: rest ∧
      w.bus = some (onBus (.write [0x01, 0x2C])) ∧ (linked (.setup w) none).link.waiting = none ∧
      w.retry = retry) ∧
    [write0 .gain] ≠ [] ∧
    (∀ waiting, (linked (.draining drain0) waiting).link.state = .draining drain0 ∧
      (linked (.draining drain0) waiting).link.waiting = waiting) :=
  ⟨fun _ _ => ⟨rfl, rfl, rfl, rfl, rfl⟩, by decide, fun _ => ⟨rfl, rfl⟩⟩

theorem witness_DirectCommandsAreTakenUpAndAnswered :
    (∀ c args, Takes (asking (claimed State.reset) c args) .h0 c (cmdOf c args) ∧
      (asking (claimed State.reset) c args).engine.claim = some { holder := .h0, timer := 5000000 } ∧
      (asking (claimed State.reset) c args).engine.state = .stopped) ∧
    sensorReadArgs [0xFF, 0xFF, 0x03] = some (.read 0xFFFF 3) ∧
    sensorWriteArgs [0x30, 0x12, 0x01] = some (.write 0x3012 [0x01]) ∧
    (let e : MapEntry := { register := 0x3012, count := 2 }
     let shared := fun (register : BitVec 16) (n a : Nat) => e.register.toNat ≤ a ∧
       a < e.register.toNat + e.count ∧ register.toNat ≤ a ∧ a < register.toNat + n
     shared 0x3013 1 0x3013 ∧ ¬∃ a, shared 0x3014 1 a) ∧
    (let w := { work0 (some (onBus (.read 1))) with retry := true }
     let v := { w with command := { direct0 with op := .write 0x3000 [0x01] }, retry := false }
     (linked (.direct w) none).link.state = .direct w ∧ w.bus = some (onBus (.read 1)) ∧
      (linked (.direct w) none).link.waiting = none ∧ w.command.op = .read 0x3000 [(0x00 : Byte)].length ∧
      w.retry = true ∧ (linked (.direct v) none).link.state = .direct v ∧ v.retry = false ∧
      v.command.op = .write 0x3000 [0x01]) := by
  refine ⟨fun _ _ => ⟨asking_takes .., rfl, rfl⟩, by decide, by decide, ⟨by decide, ?_⟩, by decide⟩
  rintro ⟨a, _, below, above, _⟩
  have below : a < 0x3014 := below
  have above : 0x3014 ≤ a := above
  omega

/-! ### Witnesses: the life of a frame -/

theorem witness_SetupPointsSetUpTheNextSlot :
    State.reset.link.description.readout + 110 ≤ State.reset.engine.slotPeriod ∧
    State.reset.calendar.active[(0 : Nat)]? = some .idle ∧
    (busy plain).calendar.active[(0 : Nat)]? = some (.assigned 0 0 [{ host := .h0, tag := 1 }]) ∧
    (busy plain).profile 0 = some { plain with references := 2 } ∧
    plain.steps[0]? = some { shift := 0, offset := 0 } := by decide

/-- A running part whose slot timer has run out, with what stands in its next-slot place. -/
def slotDue (next : Option NextFrame) (link stall : Nat) : State :=
  { engineIn .running with
    sequencer :=
      { State.reset.sequencer with
        slotTimer := some 0, position := .slot 0, next := next, linkFailures := link
        stallFailures := stall } }

theorem witness_SlotStartsTriggerOrDropTheNextFrame :
    State.reset.sequencer.slotTimer ≠ some 0 ∧ (slotDue none 0 0).sequencer.slotTimer = some 0 ∧
    (slotDue none 0 0).sequencer.present = none ∧
    (dropPresent .stall (slotDue none 0 0)).engine.state = .running ∧
    (dropPresent .stall (slotDue none 0 0)).sequencer.next = none ∧
    (∀ f, (dropPresent .stall (slotDue (some f) 2 2)).sequencer.next = some f) ∧
    (nextOf .armed).state = .armed ∧ (nextOf .setup).state = .setup ∧
    (nextOf .setup).context.linkResult ≠ .failed ∧
    ({ (nextOf .setup).context with linkResult := .failed }).linkResult = .failed ∧
    (let s : State :=
      { slotDue none 0 0 with
        engine := { State.reset.engine with state := .stopping, stopWaiting := some (.h0, 0) } }
     s.sequencer.slotTimer = some 0 ∧ (dropPresent .stall s).engine.state ≠ .running) :=
  ⟨by decide, rfl, rfl, rfl, rfl, fun _ => rfl, rfl, rfl, by decide, rfl, rfl, by decide⟩

theorem witness_ClosesTakeTheirStepsInOrder :
    State.reset.sequencer.present = none ∧
    (∀ state, (flying state).sequencer.present = some (inFlight state) ∧
      (inFlight state).state = state) ∧
    (flying .exposing).engine.state ≠ .stopping ∧ FrameOutcome.normal ≠ .dropped .stall ∧
    (let s : State :=
      { slotDue none 0 2 with
        engine := { State.reset.engine with state := .stopping, stopWaiting := some (.h0, 0) } }
     s.engine.state = .stopping ∧ s.sequencer.stallFailures = 2 ∧
      s.engine.stopWaiting = some (.h0, 0)) ∧
    (slotDue none 0 1).sequencer.stallFailures ≠ 2 ∧ (engineIn .stopping).engine.state = .stopping ∧
    (engineIn .stopping).engine.stopWaiting = none :=
  ⟨rfl, fun _ => ⟨rfl, rfl⟩, by decide, by decide, ⟨rfl, rfl, rfl⟩, by decide, rfl, rfl⟩

theorem witness_OccasionsCompleteBursts :
    RequestsOk (busy lent) ∧ ProfilesOk (busy lent) ∧ CalendarOk (busy lent) ∧
    frame901.subscribers.Nodup ∧ (busy lent).profile 0 = some { lent with references := 2 } ∧
    (busy lent).profile 1 = none :=
  ⟨busy_requestsOk lent, busy_profilesOk (p := lent) rfl rfl rfl, busy_calendarOk lent, by decide, rfl,
    rfl⟩

/-- The last ACTIVE user of a tune ends: the profile is MANUAL, and TUNE_ABORTED with the 7 frames reached goes
to its owner, host 1 (R17, R100). -/
theorem test_burst_ends_the_tune :
    let s := shelf lent [{ wish .h0 1 (.active 0) with kind := .burst 1 0 }]
    let t := countOccasions (frameOf 512) .normal (s.setPort .h1 (attached0.port .h0))
    t.profile 0 = some { lent with mode := .manual } ∧
      (t.port .h1).notices = [{ kind := .tuneAborted, subject := 0, detail := 7 }] := by decide

/-- A suspension posts SUSPENDED with the misses as detail, and then the abort of the tune (R20, R100). -/
theorem test_suspension_is_told :
    let s := shelf tuned [{ wish .h0 1 (.active 0) with missLimit := 2, misses := 1 }]
    let t := missReport .h0 [1] (s.setPort .h0 (attached0.port .h0))
    (t.port .h0).notices =
      [{ kind := .suspended, subject := 1, detail := 2 },
        { kind := .tuneAborted, subject := 0, detail := 0 }] := by decide

/-- A burst of one occasion ends at the close of its frame: its entry is freed and its owner told (R16,
R17). -/
theorem test_burst_of_one_completes :
    let s := shelf plain [{ wish .h0 1 (.active 0) with kind := .burst 1 0 }]
    let t := countOccasions (frameOf 512) .normal (s.setPort .h0 (attached0.port .h0))
    t.requests.table = [] ∧
      (t.port .h0).notices = [{ kind := .done, subject := 1, detail := 0 }] ∧
      t.profile 0 = some plain := by decide

/-- Frame Pass taking a frame. -/
def taking (a : Accumulators) : State :=
  { flying .readout with
    framePass := .taking a (List.replicate 64 0) false, videoOut := { frameValid := true, line := [] } }

theorem witness_FramesStartAndAreMeasured :
    ({ State.reset with sequencer.exposureTimer := some 0 }).sequencer.exposureTimer = some 0 ∧
    State.reset.sequencer.exposureTimer ≠ some 0 ∧
    (flying .exposing).sequencer.present = some (inFlight .exposing) ∧
    (∀ f, (taking .zero).sequencer.present = some f → f.state = .readout) ∧
    (taking .zero).framePass = .taking .zero (List.replicate 64 0) false ∧
    (∀ a header cut, (flying .readout).framePass ≠ .taking a header cut) ∧
    (taking { Accumulators.zero with pixelCount := 16777215 }).framePass =
      .taking { Accumulators.zero with pixelCount := 16777215 } (List.replicate 64 0) false ∧
    (taking .zero).sequencer.present = some (inFlight .readout) :=
  ⟨rfl, by decide, rfl, fun _ e => (by cases e; rfl), rfl, fun _ _ _ e => (by cases e), rfl, rfl⟩

theorem witness_FrameEndsCloseNormally :
    (∀ f, (flying .exposing).sequencer.present = some f → f.state = .exposing) ∧
    (taking .zero).sequencer.present = some (inFlight .readout) ∧
    (inFlight .readout).state = .readout ∧
    (taking .zero).framePass = .taking .zero (List.replicate 64 0) false ∧
    (∀ cut, ({ taking .zero with framePass := .waitingEnd .zero [] cut }).framePass =
      .waitingEnd .zero [] cut) :=
  ⟨fun _ e => (by cases e; rfl), rfl, rfl, rfl, fun _ => rfl⟩

/-- A frame that a stray frame start cuts short in its last line carries SIZE_MISMATCH (R107). -/
theorem test_frame_cut_short (pixels : List Pixel) (w : Window) (a : Accumulators) :
    (after .frameStart (after (.videoLine pixels true) (taking a))).framePass.mismatch w = true := by
  simp [after, exec, execVideoLine, execFrameStart, frameStartIgnored, taking, flying, inFlight,
    FramePass.mismatch, FramePass.cutShort]

theorem witness_HeaderLinesCarryTheFrameAndItsCrc :
    (List.replicate 4 ({ host := .h0, tag := 1 } : Subscriber)).length ≤ 4 ∧
    (headerBytes frame901).length = 64 ∧ 64 ≤ 64 ∧ 63 < 64 := by
  refine ⟨by decide, rfl, by decide, by decide⟩

/-! ### Witnesses: the forms that steps keep -/

/-- A running part in use: a tune on profile 0, a frame in flight, a record and a notice waiting, the claim
held, and a slot start commanded. -/
def world : State :=
  let port := { attached0.port .h0 with notices := [news 1] }
  { busy tuned with
    pending := [.slotStart]
    ports := ⟨port, port, State.reset.port .h2, State.reset.port .h3⟩
    sequencer := { (flying .exposing).sequencer with slotTimer := some 0, frameNumber := 901 }
    delivery := (withRecords [recordOf 899 0, recordOf 900 0] 898 0 0).delivery
    engine := { (engineIn .running).engine with claim := some { holder := .h0, timer := 5000000 } } }

theorem world_steps : ∃ t, step world = .next t := ⟨_, rfl⟩

theorem world_noticeQueuesOk : NoticeQueuesOk world := by
  intro h
  cases h <;> exact ⟨by decide, by decide, by decide⟩

theorem world_recordQueuesOk : RecordQueuesOk world := by
  intro h
  cases h
  · refine ⟨by decide, by decide, ?_⟩
    intro r mem
    obtain rfl | rfl : r = recordOf 899 0 ∨ r = recordOf 900 0 := by
      simpa [world, withRecords, State.mailbox, State.setMailbox, PerHost.get, PerHost.set] using mem
    all_goals exact ⟨by decide, by decide, fun _ e => by cases e⟩
  all_goals exact ⟨by decide, by decide, fun _ mem => by cases mem⟩

theorem world_recordOrderOk : RecordOrderOk world where
  increasing h := by cases h <;> unfold Above <;> decide
  numbered h := by cases h <;> unfold Above <;> decide
  inFlight f e := by
    cases e
    refine ⟨rfl, by decide, fun h => ?_⟩
    cases h <;> unfold Above <;> decide

theorem world_recordsRecent : RecordsRecent world := by
  intro h
  cases h <;> decide

theorem world_engineOk : EngineOk world where
  timer := ⟨fun _ => .inl rfl, fun _ => rfl⟩
  still not := absurd (.inl rfl) not
  stopping e := by cases e
  stopWaits := by decide
  fault := by decide
  exposure e := by cases e
  pass := ⟨fun e => absurd rfl e, fun ⟨_, e, r⟩ => by cases e; cases r⟩
  output := ⟨fun e => (by cases e), fun e => absurd rfl e⟩
  failures := by decide

theorem world_claimOk : ClaimOk world := by
  rintro c e
  cases e
  exact .inl rfl

theorem world_tunesInUse : TunesInUse world := by
  intro id p loop e _
  fin_cases id
  · rfl
  all_goals cases e

theorem world_tablesOk : TablesOk world where
  ports h := by
    cases h <;>
      exact
        { distinct := by decide
          numbered := by decide
          awaited := by decide
          attachedOrDetaching := by decide
          overtaken := by decide
          held := fun e => by cases e
          quiet := by decide }
  requests := requestsOk_of (busy_requestsOk tuned) rfl
  profiles := profilesOk_of (busy_profilesOk (p := tuned) rfl rfl rfl) rfl rfl
  holdings h := by
    cases h
    · intro e; cases e
    · intro e; cases e
    all_goals
      intro _
      refine ⟨rfl, ?_, rfl, rfl⟩
      intro id p e
      fin_cases id
      · cases e; decide
      all_goals cases e

theorem witness_StepsKeepTheQueues :
    (∃ t, step world = .next t) ∧ NoticeQueuesOk world ∧ RecordQueuesOk world ∧
    RecordsRecent world ∧ RecordOrderOk world :=
  ⟨world_steps, world_noticeQueuesOk, world_recordQueuesOk, world_recordsRecent, world_recordOrderOk⟩

theorem witness_StepsKeepTheEngineInOrder :
    (∃ t, step world = .next t) ∧ EngineOk world ∧ ClaimOk world :=
  ⟨world_steps, world_engineOk, world_claimOk⟩

theorem witness_StepsKeepRequestsAndTunes :
    (∃ t, step world = .next t) ∧ RequestsOk world ∧ TunesInUse world :=
  ⟨world_steps, requestsOk_of (busy_requestsOk tuned) rfl, world_tunesInUse⟩

theorem witness_StepsKeepTheCalendar : (∃ t, step world = .next t) ∧ CalendarOk world :=
  ⟨world_steps, calendarOk_of (busy_calendarOk tuned) rfl rfl⟩

theorem world_quotasOk : QuotasOk world where
  requests := by decide
  profiles := by decide
  live h := by cases h <;> decide
  owned h := by cases h <;> decide

theorem witness_StepsKeepTheQuotas : (∃ t, step world = .next t) ∧ QuotasOk world :=
  ⟨world_steps, world_quotasOk⟩

theorem witness_StepsKeepTheTablesInAgreement : (∃ t, step world = .next t) ∧ TablesOk world :=
  ⟨world_steps, world_tablesOk⟩

/-! ### More of the handbook's examples, one step each -/

/-- Table 9-6: two notices to a queue of 14; the second is dropped and counted (R154). -/
theorem test_notice_queue_overflows :
    let q := joinNotice (joinNotice (List.replicate 14 (news 1)) (news 4)) (news 5)
    q.length = 16 ∧ q[(14 : Nat)]? = some (news 4) ∧
      q[(15 : Nat)]? = some { kind := .noticeLost, subject := 1, detail := 0 } ∧
      (joinNotice (q.drop 1) (news 6))[(14 : Nat)]? =
        some { kind := .noticeLost, subject := 2, detail := 0 } := by decide

/-- A whole command transaction of host 0: select falls, the direction byte, the frame, select rises. -/
def sending (frame : List Byte) (s : State) : State :=
  [Moment.falls, .direction, .bytes frame, .rises].foldl
    (fun t m => after (.commandTransaction .h0 m) t) s

/-- Table 9-5: the status byte of an attached port before a command, while PENDING, and when READY (R142). -/
theorem test_status_bytes :
    statusByte attached0 .h0 = 0x20 ∧
    statusByte (sending [0x11, 0x01, 0x01] attached0) .h0 = 0x22 ∧
    statusByte (withNotices [news 1]) .h0 = 0x24 ∧ atn (withNotices [news 1]) .h0 = true := by decide

/-- Table 9-5: a command while the buffer is PENDING is discarded, and DISCARDED is set (R145). -/
theorem test_command_discarded :
    let s := sending [0x11, 0x01, 0x01] attached0
    statusByte (sending [0x04, 0x00] s) .h0 = 0x32 := by decide

/-- The status byte is the one sampled at the fall of select, PENDING, though the answer has made the buffer
READY before the direction byte ends; the read is answered from the buffer then (R141, R146). -/
theorem test_status_byte_is_sampled :
    let s := after (.responseRead .h0 .falls) (sending [0x06, 0x00] attached0)
    let t := after (.responseRead .h0 .direction) (after (.commandAnswer .h0) s)
    ((after (.responseRead .h0 (.bytes [0, 0, 0])) t).port .h0).shiftedOut = [0x22, 0x04, 0x00, 0x00] ∧
      (t.port .h0).buffer = .empty := by decide

/-- An HRST pulse abandons a response read under way: 00h for the rest of it, and the next transaction is
ignored while HRST is low (R151). -/
theorem test_pulse_abandons :
    let s := attached0.setPort .h0
      { attached0.port .h0 with buffer := .ready { status := .ok, results := [0x07] } }
    let t := after (.responseRead .h0 .direction) (after (.responseRead .h0 .falls) s)
    let u := after (.hrstPulse .h0) (after (.responseRead .h0 (.bytes [0])) t)
    let v := after (.responseRead .h0 (.bytes [0, 0])) u
    (v.port .h0).shiftedOut = [0x21, 0x00, 0x00, 0x00] ∧ (u.port .h0).select = some .abandoned ∧
      ((after (.statusPoll .h0 0 .falls) (after (.responseRead .h0 .rises) v)).port .h0).select =
        some .ignored := by decide

/-- Table 9-5: GET_NOTICE of a CANCELLED notice of tag 1 answers 06h, 00h, 01h, 00h, 00h (R156). -/
theorem test_get_notice :
    let s := asking (withNotices [{ kind := .cancelled, subject := 1, detail := 0 }]) .getNotice []
    let t := after (.getNotice .h0) s
    ((t.port .h0).answers.map fun a => a.response.results) = [[0x06, 0x00, 0x01, 0x00, 0x00]] ∧
      (t.port .h0).notices = [] := by decide

/-- Table 8-4: a record of frame 309 lost to a full queue (R133). -/
theorem test_full_queue_loses :
    let s := (busy plain).setMailbox .h0
      { queue := List.replicate 8 (recordOf 300 0), pendingLoss := 1, lastDiscarded := 308
        holdLimit := 0 }
    let t := composeRecord { frameOf 512 with frameNumber := some 309 } .normal s .h0
    (t.mailbox .h0).pendingLoss = 2 ∧ (t.mailbox .h0).lastDiscarded = 309 ∧
      (t.mailbox .h0).queue.length = 8 ∧ (t.requests.table.map (·.misses)) = [1, 0] := by decide

/-- Table 8-4: ACK_RECORD of a frame lost (309), of a frame in the queue but not at its head (302), and of
the head (301) (R135). -/
theorem test_acknowledgements :
    let s := withRecords [recordOf 301 0, recordOf 302 0] 309 0 0
    let status := fun number : List Byte =>
      ((after (.ackRecord .h0) (asking s .ackRecord number)).port .h0).answers.map fun a =>
        (a.response.status, a.response.results)
    status [0x00, 0x00, 0x01, 0x35] = [(.expired, [])] ∧
      status [0x00, 0x00, 0x01, 0x2E] = [(.sequence, [])] ∧
      status [0x00, 0x00, 0x01, 0x2D] = [(.ok, [0x01])] := by decide

/-- Table 8-5: the hold of frame 4,100 runs out 100 ms after its arrival, and not before (R136). -/
theorem test_hold_runs_out :
    let s := fun clock => withRecords [recordOf 4100 2000000, recordOf 4101 2033333] 0 clock 100
    ((after (.holdTimeout .h0) (s 2099999)).mailbox .h0).queue.length = 2 ∧
      ((after (.holdTimeout .h0) (s 2100000)).mailbox .h0).queue = [recordOf 4101 2033333] ∧
      ((after (.holdTimeout .h0) (s 2100000)).mailbox .h0).lastDiscarded = 4100 := by decide

/-- Table 4-5, slot start D: frame 1,002 closed STALL, frame 1,003 triggered, and the halt with its records
and its notice (R76, R82, R83). -/
theorem test_third_stall_halts :
    let s : State :=
      { busy plain with
        sequencer :=
          { (slotDue (some (nextOf .armed)) 0 2).sequencer with
            present := some { inFlight .exposing with context := { frameOf 512 with frameNumber := some 1002 } }
            frameNumber := 1002 }
        engine := (engineIn .running).engine }
    let t := after .slotStart (s.setPort .h0 (attached0.port .h0))
    t.engine.state = .halted ∧ t.engine.fault = .sensorStall ∧ t.sequencer.slotTimer = none ∧
      t.sequencer.frameNumber = 1003 ∧ t.sequencer.stallFailures = 3 ∧ t.sequencer.present = none ∧
      ((t.mailbox .h0).queue.map fun r => (r.frameNumber, r.outcome)) =
        [(1002, .dropped .stall), (1003, .dropped .halt)] ∧
      (t.port .h0).notices = [{ kind := .engineHalted, subject := 0, detail := 2 }] := by decide

/-- Table 7-4: a NACK makes the EXPOSURE entry unknown and begins a retry; a second one fails the setup
(R122). -/
theorem test_nack_then_failure :
    let w := fun retry => setupWork [write0 .exposure, write0 .gain] retry (some (onBus (.write [0x01, 0x2C])))
    let s := fun retry =>
      let t := withNext .setup (linked (.setup (w retry)) none)
      { t with link := { t.link with shadow := ⟨some 480, some 24, some 0, some 0, some 1280, some 960⟩ } }
    let t := after (.setupWriteEnd (.nack 1)) (s false)
    let u := after (.setupWriteEnd (.nack 1)) (s true)
    t.link.shadow = ⟨none, some 24, some 0, some 0, some 1280, some 960⟩ ∧
      t.link.state = .setup { w true with bus := none, left := 20 } ∧ u.link.state = .idle ∧
      u.link.shadow = t.link.shadow ∧
      (u.sequencer.next.map fun f => (f.state, f.context.linkResult)) = some (.setup, .failed) := by decide

/-- Table 4-7: STOP during READOUT abandons the next-slot context and waits in STOPPING (R169). -/
theorem test_stop_waits :
    let s := asking (claimed (withNext .armed (flying .readout))) .stop []
    let t := after (.stop .h0) s
    t.engine.state = .stopping ∧ t.sequencer.next = none ∧ t.sequencer.present = s.sequencer.present ∧
      (t.port .h0).answers = [] := by decide

end Sys2Proof.Tests
end

/-! The work of the builder: the order of the candidates is fixed by class and sequence (R48), the slots a
candidate occupies and what placing it makes of them (R45, R50), the phase at which it is placed (R49, R50). -/

namespace Sys2Proof.Proofs

open Sys2Proof.Machine Sys2Proof.Safety

/-! ### The order of the candidates (R48) -/

/-- The strict order of R48, in which no two candidates of a snapshot stand level. -/
def PlacedBefore (a b : Candidate) : Prop :=
  a.priority < b.priority ∨ (a.priority = b.priority ∧ a.sequence < b.sequence)

theorem orderedBefore_of_placedBefore {a b : Candidate} (h : PlacedBefore a b) :
    orderedBefore a.priority a.sequence b.priority b.sequence :=
  h.imp_right fun ⟨same, lt⟩ => ⟨same, BitVec.le_of_lt lt⟩

theorem not_orderedBefore_of_placedBefore {a b : Candidate} (h : PlacedBefore a b) :
    ¬orderedBefore b.priority b.sequence a.priority a.sequence := by
  rintro (lt | ⟨same, le⟩) <;> obtain lt' | ⟨same', lt'⟩ := h
  · omega
  · omega
  · omega
  · exact BitVec.not_lt.mpr le lt'

theorem buildOrder_perm (candidates : List Candidate) : (buildOrder candidates).Perm candidates :=
  List.perm_insertionSort ..

theorem buildOrder_pairwise (candidates : List Candidate) :
    (buildOrder candidates).Pairwise fun a b =>
      orderedBefore a.priority a.sequence b.priority b.sequence := by
  have total : Std.Total fun a b : Candidate =>
      orderedBefore a.priority a.sequence b.priority b.sequence :=
    ⟨fun a b => by simp only [orderedBefore]; bv_omega⟩
  have trans : IsTrans Candidate fun a b =>
      orderedBefore a.priority a.sequence b.priority b.sequence :=
    ⟨fun a b c => by simp only [orderedBefore]; bv_omega⟩
  exact List.pairwise_insertionSort _ _

/-- Any strictly ordered arrangement of a snapshot is the builder's own. -/
theorem buildOrder_unique {candidates sorted : List Candidate} (perm : sorted.Perm candidates)
    (strict : sorted.Pairwise PlacedBefore) : buildOrder candidates = sorted := by
  have perm' : sorted.Perm (buildOrder candidates) := perm.trans (buildOrder_perm candidates).symm
  have apart : sorted.Pairwise fun a b => PlacedBefore a b ∨ PlacedBefore b a :=
    strict.imp Or.inl
  have symm : Std.Symm fun a b => PlacedBefore a b ∨ PlacedBefore b a := ⟨fun _ _ => Or.symm⟩
  refine (perm'.eq_of_pairwise (fun a b inA inB ab ba => ?_)
    (strict.imp orderedBefore_of_placedBefore) (buildOrder_pairwise candidates)).symm
  by_contra ne
  rcases apart.forall inA (perm'.mem_iff.mpr inB) ne with lt | lt
  · exact not_orderedBefore_of_placedBefore lt ba
  · exact not_orderedBefore_of_placedBefore lt ab

/-! ### The slots a candidate occupies (R45) -/

/-- Slot `n` is one that `c` would occupy at a phase: j·P + phase + i with i below k. -/
def Occupies (c : Candidate) (phase n : Nat) : Prop :=
  phase ≤ n % c.period ∧ n % c.period < phase + c.stepCount

theorem mem_occupied {length period phase stepCount n i : Nat} (high : phase + stepCount ≤ period)
    (dvd : period ∣ length) :
    (n, i) ∈ occupied length period phase stepCount ↔
      n < length ∧ i < stepCount ∧ n % period = phase + i := by
  obtain ⟨turns, rfl⟩ := dvd
  rcases Nat.eq_zero_or_pos period with rfl | pos
  · simp [occupied]
  simp only [occupied, Nat.mul_div_cancel_left turns pos, List.mem_flatMap, List.mem_map,
    List.mem_range, Prod.mk.injEq]
  constructor
  · rintro ⟨j, hj, i, hi, rfl, rfl⟩
    have turn : (j + 1) * period ≤ turns * period := Nat.mul_le_mul_right _ hj
    refine ⟨by linarith, hi, ?_⟩
    rw [Nat.add_assoc, Nat.mul_add_mod', Nat.mod_eq_of_lt (by omega)]
  · rintro ⟨hn, hi, e⟩
    refine ⟨n / period, Nat.div_lt_of_lt_mul hn, i, hi, ?_, rfl⟩
    rw [Nat.add_assoc, ← e, Nat.div_add_mod']

/-- The slots are occupied in ascending order, so none is occupied twice. -/
theorem occupied_ascending {length period phase stepCount : Nat} (high : phase + stepCount ≤ period) :
    (occupied length period phase stepCount).Pairwise fun a b => a.1 < b.1 := by
  refine List.pairwise_flatMap.mpr ⟨fun j _ => ?_, List.pairwise_lt_range.imp fun {j j'} lt => ?_⟩
  · exact List.pairwise_map.mpr (List.pairwise_lt_range.imp fun lt => Nat.add_lt_add_left lt _)
  · simp only [List.mem_map, List.mem_range]
    rintro _ ⟨i, hi, rfl⟩ _ ⟨i', -, rfl⟩
    have turn : (j + 1) * period ≤ j' * period := Nat.mul_le_mul_right _ lt
    linarith

/-! ### A phase that fits (R50) -/

/-- A phase of `c` fits: it is at most P − k, and every slot `c` would occupy is idle or shared with room left. -/
def Fits (slots : List Slot) (c : Candidate) (phase : Nat) : Prop :=
  phase + c.stepCount ≤ c.period ∧
    ∀ n slot, Occupies c phase n → slots[n]? = some slot →
      slot = .idle ∨ ∃ subscribers, slot = .assigned c.profile (n % c.period - phase) subscribers ∧
        subscribers.length < 4

theorem takes_iff {profile : Fin 16} {step : Nat} {slot : Slot} :
    slot.takes profile step = true ↔
      slot = .idle ∨ ∃ subscribers, slot = .assigned profile step subscribers ∧ subscribers.length < 4 := by
  cases slot with
  | idle => simp [Slot.takes]
  | assigned p i subscribers =>
    simp only [Slot.takes, Bool.and_eq_true, beq_iff_eq, decide_eq_true_eq]
    simp [subscriberLimit, and_assoc]

theorem slotTakes_of_getElem? {slots : List Slot} {profile : Fin 16} {n i : Nat} {slot : Slot}
    (e : slots[n]? = some slot) : slotTakes slots profile (n, i) = slot.takes profile i := by
  simp [slotTakes, e]

theorem phaseFits_iff {slots : List Slot} {c : Candidate} {phase : Nat}
    (high : phase + c.stepCount ≤ c.period) (dvd : c.period ∣ slots.length) :
    phaseFits slots c phase = true ↔ Fits slots c phase := by
  simp only [phaseFits, List.all_eq_true, Prod.forall, mem_occupied high dvd]
  constructor
  · refine fun all => ⟨high, fun n slot ⟨low, lt⟩ e => takes_iff.mp ?_⟩
    rw [← slotTakes_of_getElem? e]
    exact all n _ ⟨(List.getElem?_eq_some_iff.mp e).1, by omega, by omega⟩
  · rintro ⟨-, takes⟩ n i ⟨hn, hi, e⟩
    have step : i = n % c.period - phase := by omega
    rw [slotTakes_of_getElem? (List.getElem?_eq_getElem hn), takes_iff, step]
    exact takes n _ ⟨by omega, by omega⟩ (List.getElem?_eq_getElem hn)

/-! ### The phase taken (R49, R50) -/

theorem startPhase_eq {c : Candidate} (ok : CandidateOk c) :
    startPhase c =
      match c.state with
      | .active phase => phase
      | _ => if c.period - c.stepCount < c.preferredPhase % c.period then 0
              else c.preferredPhase % c.period := by
  have beyond : (c.period < c.preferredPhase % c.period + c.stepCount) =
      (c.period - c.stepCount < c.preferredPhase % c.period) := by
    have := ok.steps; apply propext; omega
  cases e : c.state <;> simp only [startPhase, e, beyond]

theorem startPhase_add_le {c : Candidate} (ok : CandidateOk c) :
    startPhase c + c.stepCount ≤ c.period := by
  have ⟨_, le⟩ := ok.steps
  rw [startPhase_eq ok]
  split
  · exact ok.phase _ ‹_›
  · split <;> omega

/-- Phase `q` is tried before `phase`: from the start phase upwards, then from 0 upwards. -/
def TriedBefore (c : Candidate) (q phase : Nat) : Prop :=
  if startPhase c ≤ phase then startPhase c ≤ q ∧ q < phase else startPhase c ≤ q ∨ q < phase

theorem mem_phasesTried {c : Candidate} (ok : CandidateOk c) {phase : Nat} :
    phase ∈ phasesTried c ↔ phase + c.stepCount ≤ c.period := by
  have := startPhase_add_le ok
  simp only [phasesTried, List.mem_append, List.mem_range'_1, List.mem_range]
  omega

/-- The phase found is one that `p` accepts with every phase tried before it refused. -/
theorem find?_phasesTried {c : Candidate} (ok : CandidateOk c) {p : Nat → Bool} {phase : Nat}
    (high : phase + c.stepCount ≤ c.period) (accepted : p phase = true)
    (refused : ∀ q, TriedBefore c q phase → q + c.stepCount ≤ c.period → p q = false) :
    (phasesTried c).find? p = some phase := by
  have start := startPhase_add_le ok
  rw [phasesTried, List.find?_append]
  by_cases le : startPhase c ≤ phase
  · have upwards : (List.range' (startPhase c) (c.period + 1 - c.stepCount - startPhase c)).find? p =
        some phase := by
      refine List.find?_range'_eq_some.mpr
        ⟨accepted, List.mem_range'_1.mpr (by omega), fun q low lt => ?_⟩
      simp [refused q (by simp [TriedBefore, le, low, lt]) (by omega)]
    rw [upwards, Option.some_or]
  · have upwards : (List.range' (startPhase c) (c.period + 1 - c.stepCount - startPhase c)).find? p =
        none := by
      refine List.find?_range'_eq_none.mpr fun q low lt => ?_
      simp [refused q (by simp [TriedBefore, le, low]) (by omega)]
    have fromZero : (List.range (startPhase c)).find? p = some phase := by
      refine List.find?_range_eq_some.mpr ⟨accepted, List.mem_range.mpr (by omega), fun q lt => ?_⟩
      simp [refused q (by simp [TriedBefore, le, lt]) (by omega)]
    rw [upwards, fromZero, Option.none_or]

theorem find?_phaseFits_eq_none {slots : List Slot} {c : Candidate} (ok : CandidateOk c)
    (dvd : c.period ∣ slots.length) (none_fits : ∀ phase, ¬Fits slots c phase) :
    (phasesTried c).find? (phaseFits slots c) = none :=
  List.find?_eq_none.mpr fun phase tried fits =>
    none_fits phase ((phaseFits_iff ((mem_phasesTried ok).mp tried) dvd).mp fits)

theorem find?_phaseFits_eq_some {slots : List Slot} {c : Candidate} {phase : Nat} (ok : CandidateOk c)
    (dvd : c.period ∣ slots.length) (fits : Fits slots c phase)
    (first : ∀ q, TriedBefore c q phase → ¬Fits slots c q) :
    (phasesTried c).find? (phaseFits slots c) = some phase :=
  find?_phasesTried ok fits.1 ((phaseFits_iff fits.1 dvd).mpr fits) fun q before high =>
    Bool.eq_false_iff.mpr fun fitsQ => first q before ((phaseFits_iff high dvd).mp fitsQ)

/-! ### The slots after a placement (R50) -/

section Modify

variable {α : Type} (f : Nat → α → α)

@[simp] theorem length_foldl_modify (places : List (Nat × Nat)) (slots : List α) :
    (places.foldl (fun acc at' => acc.modify at'.1 (f at'.2)) slots).length = slots.length := by
  induction places generalizing slots with
  | nil => rfl
  | cons place rest ih => simp [ih]

theorem getElem?_foldl_modify_of_not_mem {places : List (Nat × Nat)} {n : Nat}
    (absent : ∀ i, (n, i) ∉ places) (slots : List α) :
    (places.foldl (fun acc at' => acc.modify at'.1 (f at'.2)) slots)[n]? = slots[n]? := by
  induction places generalizing slots with
  | nil => rfl
  | cons place rest ih =>
    have ne : place.1 ≠ n := by
      rintro rfl
      exact absent place.2 List.mem_cons_self
    rw [List.foldl_cons, ih (fun i h => absent i (List.mem_cons_of_mem _ h)),
      List.getElem?_modify_ne _ _ ne]

theorem getElem?_foldl_modify_of_mem {places : List (Nat × Nat)}
    (ascending : places.Pairwise fun a b => a.1 < b.1) {n i : Nat} (mem : (n, i) ∈ places)
    (slots : List α) :
    (places.foldl (fun acc at' => acc.modify at'.1 (f at'.2)) slots)[n]? = slots[n]?.map (f i) := by
  induction ascending generalizing slots with
  | nil => cases mem
  | @cons place rest above _ ih =>
    rw [List.foldl_cons]
    rcases List.mem_cons.mp mem with rfl | later
    · rw [getElem?_foldl_modify_of_not_mem f fun j h => (above _ h).false, List.getElem?_modify_eq]
      rfl
    · rw [ih later, List.getElem?_modify_ne _ _ (above _ later).ne]

end Modify

/-- A slot that `c` has joined at one of its steps. -/
abbrev joined (c : Candidate) (step : Nat) : Slot → Slot :=
  Slot.withSubscriber c.profile step { host := c.owner, tag := c.tag }

@[simp] theorem length_placeAt (slots : List Slot) (c : Candidate) (phase : Nat) :
    (placeAt slots c phase).length = slots.length :=
  length_foldl_modify (joined c) ..

theorem getElem?_placeAt_of_not_occupies {slots : List Slot} {c : Candidate} {phase n : Nat}
    (high : phase + c.stepCount ≤ c.period) (dvd : c.period ∣ slots.length)
    (out : ¬Occupies c phase n) : (placeAt slots c phase)[n]? = slots[n]? := by
  refine getElem?_foldl_modify_of_not_mem (joined c) (fun i mem => out ?_) _
  obtain ⟨-, hi, e⟩ := (mem_occupied high dvd).mp mem
  exact ⟨by omega, by omega⟩

theorem getElem?_placeAt_of_occupies {slots : List Slot} {c : Candidate} {phase n : Nat}
    (high : phase + c.stepCount ≤ c.period) (dvd : c.period ∣ slots.length) (hn : n < slots.length)
    (inside : Occupies c phase n) :
    (placeAt slots c phase)[n]? =
      slots[n]?.map (joined c (n % c.period - phase)) := by
  obtain ⟨low, lt⟩ := inside
  have mem : (n, n % c.period - phase) ∈ occupied slots.length c.period phase c.stepCount :=
    (mem_occupied high dvd).mpr ⟨hn, by omega, by omega⟩
  exact getElem?_foldl_modify_of_mem (joined c) (occupied_ascending high) mem slots

/-! ### One candidate, and the whole build -/

theorem placeCandidate_of_find?_none {sh : Shadow} {c : Candidate}
    (e : (phasesTried c).find? (phaseFits sh.slots c) = none) :
    placeCandidate sh c = { sh with unplaced := sh.unplaced + 1 } := by
  simp only [placeCandidate, e]

theorem placeCandidate_of_find?_some {sh : Shadow} {c : Candidate} {phase : Nat}
    (e : (phasesTried c).find? (phaseFits sh.slots c) = some phase) :
    placeCandidate sh c =
      { slots := placeAt sh.slots c phase
        placed := sh.placed ++ [{ owner := c.owner, tag := c.tag, phase := phase }]
        unplaced := sh.unplaced } := by
  simp only [placeCandidate, e]

/-- Settles O30: the order by the uniqueness of a strictly sorted arrangement, the phase by the search through the
phases tried, the slots by the fold over the occupied ones. -/
theorem candidatesArePlacedAtTheirFirstFit : Obligations.CandidatesArePlacedAtTheirFirstFit := by
  refine ⟨fun candidates sorted perm strict => ?_, fun sh c ok dvd => ?_⟩
  · rw [buildShadow, buildOrder_unique perm strict, buildLength]
  intro start inside fits before
  have isStart : startPhase c = start := startPhase_eq ok
  clear_value start
  subst isStart
  constructor
  · intro none_fits
    exact placeCandidate_of_find?_none (find?_phaseFits_eq_none ok dvd none_fits)
  intro phase fitsHere first
  have ⟨high, _⟩ := fitsHere
  refine ⟨placeAt sh.slots c phase,
    placeCandidate_of_find?_some (find?_phaseFits_eq_some ok dvd fitsHere first),
    length_placeAt .., fun n hn => ⟨getElem?_placeAt_of_not_occupies high dvd, ?_, ?_⟩⟩
  · intro isInside idle
    rw [getElem?_placeAt_of_occupies high dvd hn isInside, idle]
    rfl
  · intro subscribers isInside shared
    rw [getElem?_placeAt_of_occupies high dvd hn isInside, shared]
    rfl

end Sys2Proof.Proofs

/-! The header line: the residue 0 that a CRC leaves when it is appended to its own bytes (R112), the 62 bytes of
the frame it is taken over (R111), the pixels of the line (R110). -/

namespace Sys2Proof.Proofs

open Sys2Proof.Machine

/-! ### Numbers as bytes (0.6) -/

@[simp] theorem length_beBytes (n v : Nat) : (beBytes n v).length = n := by
  induction n with
  | zero => rfl
  | succ n ih => rw [beBytes, List.length_cons, ih]

@[simp] theorem beBytes_one (v : Nat) : beBytes 1 v = [BitVec.ofNat 8 v] := by
  simp [beBytes]

theorem beBytes_two_toNat (r : BitVec 16) :
    beBytes 2 r.toNat = [r.extractLsb' 8 8, r.setWidth 8] := by
  simp [beBytes, BitVec.extractLsb', Nat.shiftRight_eq_div_pow]

/-! ### The CRC register (R112) -/

theorem crcShift_eq (r : BitVec 16) :
    crcShift r = if r.msb then (r <<< 1) ^^^ 0x1021 else r <<< 1 := by
  rw [crcShift, BitVec.msb_eq_getLsbD_last]

theorem crcShifts_eq_iterate (n : Nat) (r : BitVec 16) : crcShifts n r = crcShift^[n] r := by
  induction n generalizing r with
  | zero => rfl
  | succ n ih => exact ih (crcShift r)

/-- The eight shifts of one byte, as a fold over the bit numbers. -/
theorem crcShifts_eight (r : BitVec 16) :
    crcShifts 8 r = (List.range 8).foldl (fun r _ => crcShift r) r := by
  rw [crcShifts_eq_iterate, List.foldl_const, List.length_range]

theorem crc_append_byte (bytes : List Byte) (b : Byte) :
    crc (bytes ++ [b]) = crcByte (crc bytes) b := by
  simp [crc]

/-- While no 1 leaves the top, shifting the register only shifts. -/
theorem crcShifts_of_lt {n : Nat} {r : BitVec 16} (small : r.toNat * 2 ^ n < 2 ^ 16) :
    crcShifts n r = r <<< n := by
  induction n generalizing r with
  | zero => simp [crcShifts]
  | succ n ih =>
    have doubled : r.toNat * 2 * 2 ^ n < 2 ^ 16 := by rwa [Nat.mul_assoc, ← Nat.pow_succ']
    have low : r.toNat * 2 < 2 ^ 16 :=
      (Nat.le_mul_of_pos_right _ (Nat.two_pow_pos n)).trans_lt doubled
    have shifted : (r <<< 1).toNat = r.toNat * 2 := by
      rw [BitVec.toNat_shiftLeft, Nat.shiftLeft_eq, pow_one, Nat.mod_eq_of_lt low]
    have top : r.msb = false := BitVec.msb_eq_false_iff_two_mul_lt.mpr (by omega)
    have one : crcShift r = r <<< 1 := by simp [crcShift_eq, top]
    rw [crcShifts, one, ih (by rwa [shifted]), ← BitVec.shiftLeft_add, Nat.add_comm]

/-- The upper byte of a word, added in its place, leaves the lower byte. -/
theorem xor_upper (r : BitVec 16) :
    r ^^^ ((r.extractLsb' 8 8).setWidth 16 <<< 8) = (r.setWidth 8).setWidth 16 := by
  ext i hi
  rcases Nat.lt_or_ge i 8 with low | high
  · simp [hi, low, ← BitVec.getLsbD_eq_getElem]
  · have inByte : i - 8 < 8 := by omega
    have inWord : i - 8 < 16 := by omega
    simp [hi, inByte, inWord, Nat.not_lt.mpr high, Nat.add_sub_of_le high, ← BitVec.getLsbD_eq_getElem]

/-- The upper byte of the register, taken in, cancels itself, and its lower byte moves up. -/
theorem crcByte_upper (r : BitVec 16) :
    crcByte r (r.extractLsb' 8 8) = (r.setWidth 8).setWidth 16 <<< 8 := by
  rw [crcByte, xor_upper, crcShifts_of_lt]
  simp only [BitVec.toNat_setWidth]
  omega

/-- A byte that equals what stands in the upper half of the register clears it. -/
theorem crcByte_self (b : Byte) : crcByte (b.setWidth 16 <<< 8) b = 0 := by
  rw [crcByte, BitVec.xor_self, crcShifts_of_lt (by decide)]
  rfl

/-- The CRC of any bytes with their CRC appended, upper byte first, is 0. -/
theorem crc_append_crc (bytes : List Byte) : crc (bytes ++ beBytes 2 (crc bytes).toNat) = 0 := by
  rw [beBytes_two_toNat, List.append_cons, crc_append_byte, crc_append_byte, crcByte_upper, crcByte_self]

/-! ### The 62 bytes before the CRC (R111) -/

theorem length_pairBytes (subscribers : List Subscriber) :
    (subscribers.flatMap fun p => [BitVec.ofNat 8 p.host.number, BitVec.ofNat 8 p.tag]).length =
      2 * subscribers.length := by
  simp [List.length_flatMap, Nat.mul_comm]

theorem subscriberBytes_eq {subscribers : List Subscriber} (few : subscribers.length ≤ 4) :
    subscriberBytes subscribers =
      (subscribers.flatMap fun p => [BitVec.ofNat 8 p.host.number, BitVec.ofNat 8 p.tag]) ++
        List.replicate (8 - 2 * subscribers.length) 0 := by
  simp only [subscriberBytes, beBytes_one, List.singleton_append]
  rw [List.take_append, length_pairBytes, List.take_replicate,
    List.take_of_length_le (by rw [length_pairBytes]; omega), Nat.min_eq_left (by omega)]

@[simp] theorem length_subscriberBytes (subscribers : List Subscriber) :
    (subscriberBytes subscribers).length = 8 := by
  simp [subscriberBytes]

@[simp] theorem length_headerBody (c : FrameContext) : (headerBody c).length = 62 := by
  simp [headerBody]

theorem hostMask_eq (subscribers : List Subscriber) :
    let served := fun h => if subscribers.any fun p => p.host == h then 1 else 0
    hostMask subscribers = served .h0 + 2 * served .h1 + 4 * served .h2 + 8 * served .h3 := by
  simp [hostMask, bit]

theorem headerFlags_eq (clamped tuning : Bool) :
    headerFlags clamped tuning = (if clamped then 1 else 0) + (if tuning then 2 else 0) :=
  rfl

/-! ### The pixels of the line (R110) -/

theorem length_headerLine {header : List Byte} {width : Nat} (whole : header.length = 64)
    (wide : 64 ≤ width) : (headerLine header width).length = width := by
  rw [headerLine, List.length_append, List.length_map, List.length_replicate]
  omega

theorem getElem?_headerLine {header : List Byte} {width i : Nat} (whole : header.length = 64)
    (inside : i < width) :
    (headerLine header width)[i]? =
      some (match header[i]? with
        | some b => BitVec.setWidth 10 b
        | none => 0) := by
  rw [headerLine]
  rcases Nat.lt_or_ge i 64 with low | high
  · rw [List.getElem?_append_left (by rw [List.length_map]; omega), List.getElem?_map,
      List.getElem?_eq_getElem (by omega)]
    rfl
  · rw [List.getElem?_append_right (by rw [List.length_map]; omega), List.length_map,
      List.getElem?_replicate_of_lt (by omega), List.getElem?_eq_none (by omega)]

/-- Settles O53: the bytes by the equations of the fields, the CRC by its residue, the line pixel by pixel. -/
theorem headerLinesCarryTheFrameAndItsCrc : Obligations.HeaderLinesCarryTheFrameAndItsCrc := by
  refine ⟨fun c few => ?_, fun header width whole wide =>
      ⟨length_headerLine whole wide, fun i inside => getElem?_headerLine whole inside⟩,
    by decide +kernel, rfl, fun bytes b => ?_, crc_append_crc⟩
  · intro served body
    have isBody : headerBody c = body := by
      simp only [headerBody, beBytes_one, subscriberBytes_eq few, hostMask_eq, headerFlags_eq,
        List.append_assoc, List.cons_append, List.nil_append, body, served]
    rw [← isBody]
    exact ⟨length_headerBody c, rfl, crc_append_crc (headerBody c)⟩
  · rw [crc_append_byte, crcByte, crcShifts_eight]
    simp only [crcShift_eq]

end Sys2Proof.Proofs

/-! What a step can do, said once: a step is a row of the table or a microsecond, and a row that takes a command
leaves one of the effects listed here, with or without an answer on its way. -/

namespace Sys2Proof.Proofs

open Sys2Proof.Machine Sys2Proof.Safety

/-! ### A step is a row or a microsecond -/

/-- A relation that every row and a microsecond keep, and that does not look at the queue, holds of every step. -/
theorem step_induction {R : State → State → Prop} (same : ∀ s, R s s) (ticks : ∀ s, R s (tick s))
    (rows : ∀ i s t, exec i s = .next t → R s t)
    (queue : ∀ s q t, R { s with pending := q } t → R s t) {s t : State} (stepped : step s = .next t) :
    R s t := by
  unfold step at stepped
  split at stepped
  · exact queue _ _ _ (rows _ _ _ stepped)
  · unfold idle at stepped
    split at stepped
    · cases stepped
      exact same s
    · split at stepped
      · exact rows _ _ _ stepped
      · cases stepped
        split
        · exact same s
        · exact ticks s

/-! ### What a command makes of the state its block finds -/

/-- The entry that an accepted edit by its owner leaves of a profile (R28, R30, R32 to R37, R89, R90). -/
inductive Edit (s : State) (h : HostId) (id : Fin 16) (p : Profile) : Option Profile → Prop
  | delete (unused : p.references = 0) : Edit s h id p none
  | exposure (e g : Nat) : Edit s h id p (some { p with baseExposure := e, baseGain := g })
  | limits (l : Limits) :
    Edit s h id p
      (some { p with exposureMin := l.exposureMin, exposureMax := l.exposureMax,
                     gainMin := l.gainMin, gainMax := l.gainMax })
  | target (target tolerance : Nat) :
    Edit s h id p (some { p with target := target, tolerance := tolerance })
  | window (w : Window) : Edit s h id p (some { p with window := w })
  | steps (steps : List BracketStep) (count : 1 ≤ steps.length ∧ steps.length ≤ 4)
      (fits : steps.length = p.steps.length ∨ p.references = 0) :
    Edit s h id p (some { p with steps := steps })
  | sharing (sharing : Sharing)
      (alone : sharing = .ownerOnly → p.sharing = .shared → usedByOther s h id = false) :
    Edit s h id p (some { p with sharing := sharing })
  | mode (asked : AskedMode) (still : ∀ loop, p.mode ≠ .tuning loop) :
    Edit s h id p (some { p with mode := p.mode.asked asked })
  | tune (manual : p.mode = .manual) (used : s.hasActiveUser id = true) :
    Edit s h id p (some { p with mode := .tuning { converge := 0, tuneFrames := 0 } })

/-- What an answered command of a host makes of the state its block finds. -/
inductive Effect (h : HostId) (cmd : Handed) (s : State) : State → Prop
  | nothing : Effect h cmd s s
  | attach (fresh : cmd.stale = false) (detached : (s.port h).attached = false) :
    Effect h cmd s
      ((s.setPort h { s.port h with attached := true, mask := 3 }).setMailbox h
        { s.mailbox h with holdLimit := 0 })
  | getNotice (attached : (s.port h).attached = true) {n : Notice} {rest : List Notice}
      (head : (s.port h).notices = n :: rest) :
    Effect h cmd s (s.setPort h { s.port h with notices := rest })
  | setAttention (attached : (s.port h).attached = true) (mask : Nat) :
    Effect h cmd s (s.setPort h { s.port h with mask := mask })
  | submit (attached : (s.port h).attached = true) {args : List Byte} {a : SubmitArgs} {p : Profile}
      (read : submitArgs args = some a) (fresh : s.request h a.tag = none)
      (held : s.profile a.profile = some p) (usable : p.usableBy h = true)
      (fits : p.steps.length ≤ a.period)
      (quota : (s.requestsOf h).length < (s.engine.quotas.get h).requests)
      (room : s.requests.table.length < 32) :
    Effect h cmd s (admitRequest h a s)
  | cancel {tag : Nat} {r : Request} (found : s.request h tag = some r) : Effect h cmd s (cancelled r s)
  | resume {tag : Nat} {r : Request} (found : s.request h tag = some r)
      (suspended : r.state = .suspended) :
    Effect h cmd s
      (trigger (s.updateRequest h r.tag fun q => { q with misses := 0, state := .pending }))
  | createProfile (attached : (s.port h).attached = true) {id : Fin 16}
      (quota : s.profilesOwned h < (s.engine.quotas.get h).profiles) (free : s.profile id = none) :
    Effect h cmd s
      (s.setProfile id (some (newProfile h s.link.description.width s.link.description.height)))
  | edit {id : Fin 16} {p : Profile} {q : Option Profile} (held : s.profile id = some p)
      (owner : p.life = .live h) (edit : Edit s h id p q) :
    Effect h cmd s (s.setProfile id q)
  | rebuild : Effect h cmd s (trigger s)
  | ackRecord {r : Record} {rest : List Record} (head : (s.mailbox h).queue = r :: rest) :
    Effect h cmd s
      (acknowledgementReport h r.tags (s.setMailbox h { s.mailbox h with queue := rest }))
  | setHold (attached : (s.port h).attached = true) (limit : Nat) :
    Effect h cmd s
      (((s.mailbox h).queue.filter (Record.holdOver limit s.delivery.clock)).foldl (discardRecord h)
        (s.setMailbox h { s.mailbox h with holdLimit := limit }))
  | claim (attached : (s.port h).attached = true) : Effect h cmd s (giveClaim h s)
  | release : Effect h cmd s { s with engine.claim := none }
  | setConfig (attached : (s.port h).attached = true) (item : ConfigItem) : Effect h cmd s (setItem h s item)
  | setQuota {g : HostId} {q : Quota}
      (requests : quotaSum (s.engine.quotas.set g q) Quota.requests ≤ 32)
      (profiles : quotaSum (s.engine.quotas.set g q) Quota.profiles ≤ 16)
      (live : (s.requestsOf g).length ≤ q.requests) (owned : s.profilesOwned g ≤ q.profiles) :
    Effect h cmd s { s with engine.quotas := s.engine.quotas.set g q }
  | start (still : s.engine.state.isStill = true) : Effect h cmd s (startEngine s)
  | stop (running : s.engine.state = .running) (empty : s.sequencer.present = none) :
    Effect h cmd s
      (postToAll { kind := .engineStopped, subject := 0, detail := 0 }
        (stopTimers { abandonNext s with engine.state := .stopped }))
  | setMap (k : ParamKind) (e : MapEntry) : Effect h cmd s (replaceEntry k e s)

/-- How a block replies to a command that it has taken: with an answer and one of the effects, or, its answer to
come later, to DETACH, to a STOP with a frame in flight, and to a direct command. -/
inductive Replies (h : HostId) (cmd : Handed) (s : State) : Reply → Prop
  | answered (a : Response) {t : State} (effect : Effect h cmd s t) :
    Replies h cmd s { answer := some a, state := t }
  | detach (attached : (s.port h).attached = true) (fresh : cmd.stale = false) :
    Replies h cmd s (acceptPending (portDetach h (some cmd.serial) s))
  | stop (running : s.engine.state = .running) {f : PresentFrame}
      (inFlight : s.sequencer.present = some f) :
    Replies h cmd s
      (acceptPending
        { abandonNext s with engine.state := .stopping, engine.stopWaiting := some (h, cmd.serial) })
  | direct (op : DirectOp) :
    Replies h cmd s
      (acceptPending (handDirect { port := h, serial := cmd.serial, op := op } (op.forget s)))

/-- What the row that takes a command leaves: the state as it was where no such command waits, else the reply of
its block. -/
def Took (c : CommandCode) (h : HostId) (s t : State) : Prop :=
  t = s ∨ ∃ cmd r, (s.port h).waitingCommand c = some cmd ∧ Replies h cmd (taken s h c) r ∧
    t = r.finish h cmd

section Replies

variable {h : HostId} {cmd : Handed} {s : State}

theorem replies_refuse (status : Status) : Replies h cmd s (refuse status s) :=
  .answered _ .nothing

theorem replies_accept {t : State} (results : List Byte) (effect : Effect h cmd s t) :
    Replies h cmd s (accept results t) :=
  .answered _ effect

theorem replies_ifAttached {run : Handed → State → Reply}
    (runs : (s.port h).attached = true → cmd.stale = false → Replies h cmd s (run cmd s)) :
    Replies h cmd s (ifAttached h run cmd s) := by
  unfold ifAttached
  split
  · rename_i taken
    simp only [Bool.and_eq_true, Bool.not_eq_true'] at taken
    exact runs taken.1 taken.2
  · exact replies_refuse _

theorem replies_ifRange {α : Type} {parsed : Option α} {run : α → Reply}
    (runs : ∀ a, parsed = some a → Replies h cmd s (run a)) :
    Replies h cmd s (ifRange parsed s run) := by
  cases parsed with
  | none => exact replies_refuse _
  | some a => exact runs a rfl

theorem replies_ifHolder {run : Reply} (runs : Replies h cmd s run) :
    Replies h cmd s (ifHolder h s run) := by
  unfold ifHolder
  split
  · exact runs
  · exact replies_refuse _

theorem replies_withRequest {run : Request → Reply}
    (runs : ∀ tag r, s.request h tag = some r → Replies h cmd s (run r)) :
    Replies h cmd s (withRequest h cmd s run) := by
  refine replies_ifRange fun tag _ => ?_
  split
  · exact replies_refuse _
  · exact runs tag _ ‹_›

theorem replies_editProfile {id : Fin 16} {edit : Profile → Except Status (Option Profile)}
    (edits : ∀ p q, edit p = .ok q → Edit s h id p q) :
    Replies h cmd s (editProfile h id s edit) := by
  unfold editProfile
  split
  · exact replies_refuse _
  · rename_i p held
    split
    · rename_i owner
      split
      · exact replies_accept _ (.edit held owner (edits p _ ‹_›))
      · exact replies_refuse _
    · exact replies_refuse _

theorem took_of_replies {c : CommandCode} {run : Handed → State → Reply}
    (replies : ∀ cmd, Replies h cmd (taken s h c) (run cmd (taken s h c))) :
    Took c h s (takeCommand c h run s) := by
  cases waits : (s.port h).waitingCommand c with
  | none => exact .inl (takeCommand_none waits run)
  | some cmd => exact .inr ⟨cmd, _, waits, replies cmd, takeCommand_some waits run⟩

end Replies

/-! ### Each block's reply to a command -/

section Blocks

variable (h : HostId) (cmd : Handed) (s : State)

theorem attachPort_replies : Replies h cmd s (attachPort h cmd s) := by
  unfold attachPort
  split
  · exact replies_refuse _
  · rename_i fresh
    refine replies_ifRange fun _ _ => ?_
    split
    · exact replies_refuse _
    · rename_i detached
      exact replies_accept _ (.attach (by simpa using fresh) (by simpa using detached))

theorem detachPort_replies (attached : (s.port h).attached = true) (fresh : cmd.stale = false) :
    Replies h cmd s (detachPort h cmd s) :=
  replies_ifRange fun _ _ => .detach attached fresh

theorem getNotice_replies (attached : (s.port h).attached = true) :
    Replies h cmd s (getNotice h cmd s) := by
  refine replies_ifRange fun _ _ => ?_
  split
  · exact replies_refuse _
  · exact replies_accept _ (.getNotice attached ‹_›)

theorem submit_replies (attached : (s.port h).attached = true) :
    Replies h cmd s (submit h cmd s) := by
  refine replies_ifRange fun a read => ?_
  split
  · exact replies_refuse _
  · rename_i fresh
    split
    · exact replies_refuse _
    · rename_i p held
      repeat' (split; · exact replies_refuse _)
      rename_i usable fits quota room
      refine replies_accept _ (.submit attached read (by simpa using fresh) held ?_ ?_ ?_ ?_)
      · simpa using usable
      · omega
      · omega
      · simpa [requestEntries] using room

theorem resume_replies : Replies h cmd s (resume h cmd s) := by
  refine replies_withRequest fun tag r found => ?_
  split
  · exact replies_accept _ (.resume found ‹_›)
  · exact replies_refuse _

theorem createProfile_replies (attached : (s.port h).attached = true) :
    Replies h cmd s (createProfile h cmd s) := by
  refine replies_ifRange fun _ _ => ?_
  split
  · exact replies_refuse _
  · split
    · exact replies_refuse _
    · rename_i id lowest
      have free := List.find?_some lowest
      exact replies_accept _ (.createProfile attached (by omega) (by simpa using free))

theorem readProfile_replies : Replies h cmd s (readProfile cmd s) := by
  refine replies_ifRange fun _ _ => ?_
  split
  · exact replies_refuse _
  · exact replies_accept _ .nothing

theorem deleteProfile_replies : Replies h cmd s (deleteProfile h cmd s) := by
  refine replies_ifRange fun _ _ => replies_editProfile fun p q edited => ?_
  split at edited
  · cases edited
  · cases edited
    exact .delete (by simpa using ‹¬p.references ≠ 0›)

theorem setExposure_replies : Replies h cmd s (setExposure h cmd s) := by
  refine replies_ifRange fun _ _ => replies_editProfile fun p q edited => ?_
  split at edited
  · cases edited
    exact .exposure ..
  · cases edited

theorem setLimits_replies : Replies h cmd s (setLimits h cmd s) := by
  refine replies_ifRange fun a _ => replies_editProfile fun p q edited => ?_
  cases edited
  exact .limits a.2

theorem setTarget_replies : Replies h cmd s (setTarget h cmd s) := by
  refine replies_ifRange fun _ _ => replies_editProfile fun p q edited => ?_
  cases edited
  exact .target ..

theorem setWindow_replies : Replies h cmd s (setWindow h cmd s) := by
  refine replies_ifRange fun _ _ => replies_editProfile fun p q edited => ?_
  cases edited
  exact .window _

/-- The list of steps that SET_STEPS reads is as long as its step count says. -/
theorem length_stepPairs (n : Nat) (args : List Byte) (length : args.length = 2 * n) :
    (stepPairs args).length = n := by
  induction n generalizing args with
  | zero =>
    obtain rfl : args = [] := by simpa using length
    rfl
  | succ n ih =>
    match args with
    | shift :: offset :: rest =>
      rw [stepPairs, List.length_cons, ih rest (by simp at length; omega)]

theorem setSteps_replies : Replies h cmd s (setSteps h cmd s) := by
  refine replies_ifRange fun a read => replies_editProfile fun p q edited => ?_
  have count : 1 ≤ a.2.length ∧ a.2.length ≤ 4 := by
    simp only [setStepsArgs] at read
    split at read
    · cases read
    · simp only [guardSome, Option.ite_none_right_eq_some, Bool.and_eq_true, decide_eq_true_eq,
        beq_iff_eq, Option.some.injEq] at read
      obtain ⟨⟨⟨⟨low, high⟩, whole⟩, -⟩, rfl⟩ := read
      rw [length_stepPairs (field cmd.args 1 1) (cmd.args.drop 2) (by rw [List.length_drop]; omega)]
      exact ⟨low, high⟩
  split at edited
  · cases edited
  · rename_i fits
    cases edited
    exact .steps _ count (by tauto)

theorem share_replies : Replies h cmd s (share h cmd s) := by
  refine replies_ifRange fun a _ => replies_editProfile fun p q edited => ?_
  split at edited
  · cases edited
  · rename_i alone
    cases edited
    exact .sharing _ fun owner shared => by simpa [owner, shared] using alone

theorem setMode_replies : Replies h cmd s (setMode h cmd s) := by
  refine replies_ifRange fun a _ => replies_editProfile fun p q edited => ?_
  split at edited
  · cases edited
  · rename_i still
    cases edited
    exact .mode _ still

theorem tune_replies : Replies h cmd s (tune h cmd s) := by
  refine replies_ifRange fun id _ => replies_editProfile fun p q edited => ?_
  split at edited
  · cases edited
  · split at edited
    · cases edited
    · rename_i manual used
      cases edited
      exact .tune (by simpa using manual) (by simpa using used)

theorem readSlotOf_replies (generation : BitVec 16) (slots : List Slot) (index : Nat) :
    Replies h cmd s (readSlotOf generation slots index s) := by
  unfold readSlotOf
  split
  · exact replies_accept _ .nothing
  · exact replies_refuse _

theorem readSlot_replies : Replies h cmd s (readSlot cmd s) := by
  refine replies_ifRange fun a _ => ?_
  split
  · split
    · exact readSlotOf_replies ..
    · exact replies_refuse _
  · exact readSlotOf_replies ..

theorem fetchRecord_replies : Replies h cmd s (fetchRecord h cmd s) := by
  refine replies_ifRange fun _ _ => ?_
  split
  · exact replies_refuse _
  · exact replies_accept _ .nothing

theorem ackRecord_replies : Replies h cmd s (ackRecord h cmd s) := by
  refine replies_ifRange fun _ _ => ?_
  dsimp only
  split
  · exact replies_refuse _
  · split
    · exact replies_accept _ (.ackRecord ‹_›)
    · exact replies_refuse _

theorem claim_replies (attached : (s.port h).attached = true) :
    Replies h cmd s (claim h cmd s) := by
  refine replies_ifRange fun _ _ => ?_
  split
  · exact replies_accept _ (.claim attached)
  · split
    · exact replies_accept _ (.claim attached)
    · exact replies_refuse _

theorem setConfig_replies (attached : (s.port h).attached = true) :
    Replies h cmd s (setConfig h cmd s) := by
  refine replies_ifRange fun item _ => replies_ifHolder ?_
  split
  · exact replies_accept _ (.setConfig attached item)
  · exact replies_refuse _

theorem setQuota_replies : Replies h cmd s (setQuota h cmd s) := by
  refine replies_ifRange fun a _ => replies_ifHolder ?_
  dsimp only
  split
  · exact replies_refuse _
  · rename_i totals
    split
    · exact replies_refuse _
    · rename_i holds
      simp only [requestEntries, not_or, not_lt] at totals holds
      exact replies_accept _ (.setQuota totals.1 totals.2 holds.1 holds.2)

theorem start_replies : Replies h cmd s (start h cmd s) := by
  refine replies_ifRange fun _ _ => replies_ifHolder ?_
  split
  · split
    · exact .answered _ .nothing
    · exact replies_accept _ (.start ‹_›)
  · exact replies_refuse _

theorem stop_replies : Replies h cmd s (stop h cmd s) := by
  refine replies_ifRange fun _ _ => replies_ifHolder ?_
  split
  · rename_i running
    unfold stopEngine
    dsimp only
    split
    · exact replies_accept _ (.stop running ‹_›)
    · exact .stop running ‹_›
  · exact replies_refuse _

theorem sensorRead_replies : Replies h cmd s (sensorRead h cmd s) := by
  refine replies_ifRange fun op read => replies_ifHolder ?_
  split
  · simp only [sensorReadArgs, guardSome, Option.ite_none_right_eq_some, Option.some.injEq] at read
    obtain ⟨-, rfl⟩ := read
    exact .direct _
  · exact replies_refuse _

theorem sensorWrite_replies : Replies h cmd s (sensorWrite h cmd s) := by
  refine replies_ifRange fun op _ => replies_ifHolder ?_
  split
  · exact .direct op
  · exact replies_refuse _

theorem setMap_replies : Replies h cmd s (setMap h cmd s) := by
  refine replies_ifRange fun a _ => replies_ifHolder ?_
  split
  · exact replies_accept _ (.setMap a.1 a.2)
  · exact replies_refuse _

end Blocks

/-- The row of a command is its taking, and its block replies as it does to that command. -/
theorem took_of_exec {c : CommandCode} {h : HostId} {s t : State}
    (row : exec (takingOf h c) s = .next t) : Took c h s t := by
  cases c <;> cases row <;> refine took_of_replies fun cmd => ?_
  case attach => exact attachPort_replies ..
  case getStatus => exact replies_ifRange fun _ _ => replies_accept _ .nothing
  all_goals refine replies_ifAttached fun attached fresh => ?_
  case detach => exact detachPort_replies _ _ _ attached fresh
  case getNotice => exact getNotice_replies _ _ _ attached
  case setAttention =>
    exact replies_ifRange fun mask _ => replies_accept _ (.setAttention attached mask)
  case submit => exact submit_replies _ _ _ attached
  case cancel => exact replies_withRequest fun _ _ found => replies_accept _ (.cancel found)
  case resume => exact resume_replies ..
  case queryRequest => exact replies_withRequest fun _ _ _ => replies_accept _ .nothing
  case listRequests => exact replies_ifRange fun _ _ => replies_accept _ .nothing
  case createProfile => exact createProfile_replies _ _ _ attached
  case deleteProfile => exact deleteProfile_replies ..
  case readProfile => exact readProfile_replies ..
  case setExposure => exact setExposure_replies ..
  case setLimits => exact setLimits_replies ..
  case setTarget => exact setTarget_replies ..
  case setWindow => exact setWindow_replies ..
  case setSteps => exact setSteps_replies ..
  case share => exact share_replies ..
  case setMode => exact setMode_replies ..
  case tune => exact tune_replies ..
  case rebuild => exact replies_ifRange fun _ _ => replies_accept _ .rebuild
  case readSlot => exact readSlot_replies ..
  case getCalendarInfo => exact replies_ifRange fun _ _ => replies_accept _ .nothing
  case fetchRecord => exact fetchRecord_replies ..
  case ackRecord => exact ackRecord_replies ..
  case setHold =>
    exact replies_ifRange fun limit _ => replies_accept _ (.setHold attached limit)
  case claim => exact claim_replies _ _ _ attached
  case release => exact replies_ifRange fun _ _ => replies_ifHolder (replies_accept _ .release)
  case setConfig => exact setConfig_replies _ _ _ attached
  case readConfig => exact replies_ifRange fun _ _ => replies_accept _ .nothing
  case setQuota => exact setQuota_replies ..
  case start => exact start_replies ..
  case stop => exact stop_replies ..
  case sensorRead => exact sensorRead_replies ..
  case sensorWrite => exact sensorWrite_replies ..
  case setMap => exact setMap_replies ..

end Sys2Proof.Proofs

/-! What a row that takes no command can do, said once: a happening at a pin or a port, in a block, on the video
input or on the I2C bus. -/

namespace Sys2Proof.Proofs

open Sys2Proof.Machine Sys2Proof.Safety

/-- The port whose HRST pulse is taken: the pin is low, and a transaction under way is abandoned (R151). -/
def pulsed (p : Port) : Port :=
  { p with hrstLow := true, select := p.select.map Transfer.abandon }

/-- The port that takes a command frame, whose number is the next one (R145). -/
def taking (p : Port) : Port :=
  { p with select := none, buffer := .pending p.nextSerial, nextSerial := p.nextSerial + 1 }

/-- The port with the next step of its detach (R149). -/
def stepped (s : State) (h : HostId) (d : Detach) (next : DetachStep) : State :=
  s.setPort h { s.port h with detaching := some { d with next := next } }

/-- What a row that takes no command makes of a state. -/
inductive Happening (s : State) : State → Prop
  | nothing : Happening s s
  | powerOn :
    Happening s { State.reset with pending := s.pending, freeIndex := s.freeIndex, resetHeld := true }
  | resetRelease : Happening s { s with resetHeld := false }
  | pulse (h : HostId) (idle : (s.port h).detaching = none) :
    Happening s (portDetach h none (s.setPort h (pulsed (s.port h))))
  | pulseAgain (h : HostId) {d : Detach} (busy : (s.port h).detaching = some d) :
    Happening s (s.setPort h { pulsed (s.port h) with detaching := some { d with answers := none } })
  | hrstRelease (h : HostId) : Happening s (s.setPort h { s.port h with hrstLow := false })
  | transfer (h : HostId) {t : State} (touches : TouchesTransfer h s t) : Happening s t
  | discard (h : HostId) (pending : (s.port h).buffer.isPending = true) :
    Happening s (s.setPort h { s.port h with select := none, discarded := true })
  | takeFrame (h : HostId) (frame : List Byte) (free : (s.port h).buffer.isPending = false) :
    Happening s (checkFrame h (s.port h).nextSerial frame (s.setPort h (taking (s.port h))))
  | responseTaken (h : HostId) (stage : Option Transfer) (out : List Byte) :
    Happening s (s.setPort h { (s.port h).responseTaken with select := stage, shiftedOut := out })
  | answer (h : HostId) {a : AnswerInTransit} {rest : List AnswerInTransit}
      (oldest : (s.port h).answers = a :: rest) :
    Happening s (deliverAnswer h a.serial a.response (s.setPort h { s.port h with answers := rest }))
  | detachRequests (h : HostId) {d : Detach} (busy : (s.port h).detaching = some d)
      (next : d.next = .requests) : Happening s (freeRequestsOf h (stepped s h d .profiles))
  | detachProfiles (h : HostId) {d : Detach} (busy : (s.port h).detaching = some d)
      (next : d.next = .profiles) :
    Happening s (allProfileIds.foldl (detachProfile h) (stepped s h d .records))
  | detachRecords (h : HostId) {d : Detach} (busy : (s.port h).detaching = some d)
      (next : d.next = .records) : Happening s ((stepped s h d .direct).setMailbox h .atReset)
  | detachDirect (h : HostId) {d : Detach} (busy : (s.port h).detaching = some d)
      (next : d.next = .direct) :
    Happening s (endDirect h (dropWaitingDirect h (stepped s h d .claim)))
  | detachClaim (h : HostId) {d : Detach} (busy : (s.port h).detaching = some d)
      (next : d.next = .claim) :
    Happening s
      (freeClaim h
        (s.setPort h
          { s.port h with
            detaching := none
            discarded := false
            buffer := match d.answers with
              | some _ => .ready { status := .ok, results := [] }
              | none => .empty }))
  | claimExpiry {c : Claim} (held : s.engine.claim = some c) :
    Happening s
      (postNotice c.holder { kind := .claimExpired, subject := 0, detail := 0 }
        { s with engine.claim := none })
  | holdTimeout (h : HostId) {r : Record} (overdue : overdueRecord s h = some r) :
    Happening s (discardRecord h s r)
  | buildAgain {snap : List Candidate} {stale : Bool} {left : Nat}
      (building : s.calendar.builder = .building snap stale left) : Happening s (beginBuild s)
  | buildReady {snap : List Candidate} {stale : Bool} {left : Nat}
      (building : s.calendar.builder = .building snap stale left) : Happening s (buildReady snap s)
  | slotStart (due : s.sequencer.slotTimer = some 0) : Happening s (slotStart s)
  | exposureExpiry :
    Happening s (setupPointIfDue { s with sequencer.exposureTimer := none })
  | frameStart {f : PresentFrame} (here : s.sequencer.present = some f)
      (exposing : f.state = .exposing) : Happening s (frameStarted f s)
  | frameStartIgnored (absent : ∀ f, s.sequencer.present = some f → f.state = .readout) :
    Happening s (frameStartIgnored s)
  | line {a : Accumulators} {header : List Byte} {cut : Bool}
      (taking : s.framePass = .taking a header cut) (b : Accumulators) (cut' : Bool)
      (pixels : List Pixel) (index : Nat) :
    Happening s
      { s with framePass := .taking b header cut', videoOut := { s.videoOut with line := pixels },
               freeIndex := index }
  | frameEnd {f : PresentFrame} (here : s.sequencer.present = some f)
      (readout : f.state = .readout) : Happening s (frameEnded f s)
  | setupBegin {w : SetupWork} (working : s.link.state = .setup w) (bus : Option Transaction) :
    Happening s (s.setLinkState (.setup { w with bus := bus, left := 0 }))
  | directAgain {w : DirectWork} (working : s.link.state = .direct w) (retry : Bool)
      (bus : Option Transaction) (left : Nat) :
    Happening s (s.setLinkState (.direct { w with retry := retry, bus := bus, left := left }))
  | writeAcknowledged {w : SetupWork} (working : s.link.state = .setup w) (x : RegisterWrite)
      (rest : List RegisterWrite) : Happening s (writeAcknowledged w x rest s)
  | writeRefused {w : SetupWork} (working : s.link.state = .setup w) (x : RegisterWrite) :
    Happening s (writeRefused w x s)
  | drainEnd {w : DrainWork} (working : s.link.state = .draining w) (answer : BusAnswer) :
    Happening s (linkIdle (recordDrain w answer s))
  | directDone {w : DirectWork} (working : s.link.state = .direct w) (r : Response) :
    Happening s (finishDirect w r s)

section Rows

variable {s t : State}

theorem hrstPulse_happens {h : HostId} (row : exec (.hrstPulse h) s = .next t) : Happening s t := by
  simp only [exec, execHrstPulse] at row
  split at row
  · cases row
    exact .nothing
  · split at row <;> cases row
    · exact .pulseAgain h ‹_›
    · exact .pulse h ‹_›

theorem commandTransaction_happens {h : HostId} {m : Moment}
    (row : exec (.commandTransaction h m) s = .next t) : Happening s t := by
  simp only [exec, execCommandTransaction] at row
  cases row
  split
  · exact .transfer h (shiftOut_touches ..)
  · exact .transfer h (shiftOut_touches ..)
  · rename_i frame _
    simp only [takeFrame, selectRises, State.setPort_port_self, State.setPort_setPort]
    split
    · exact .discard h ‹_›
    · rename_i free
      exact .takeFrame h frame (by simpa using free)
  · exact .transfer h (commonMoment_touches ..)

theorem responseRead_happens {h : HostId} {m : Moment}
    (row : exec (.responseRead h m) s = .next t) : Happening s t := by
  simp only [exec, execResponseRead] at row
  cases row
  split
  · simp only [shiftOut, State.setPort_port_self, State.setPort_setPort]
    exact .responseTaken h ..
  · exact .transfer h (shiftOut_touches ..)
  · exact .transfer h (selectRises_touches ..)
  · exact .transfer h (commonMoment_touches ..)

theorem statusPoll_happens {h : HostId} {direction : Byte} {m : Moment}
    (row : exec (.statusPoll h direction m) s = .next t) : Happening s t := by
  simp only [exec, execStatusPoll] at row
  cases row
  split
  · split
    · exact .nothing
    · exact .transfer h (shiftOut_touches ..)
  · exact .transfer h (shiftOut_touches ..)
  · exact .transfer h (selectRises_touches ..)
  · exact .transfer h (commonMoment_touches ..)

theorem commandAnswer_happens {h : HostId} (row : exec (.commandAnswer h) s = .next t) :
    Happening s t := by
  simp only [exec, execCommandAnswer] at row
  split at row <;> cases row
  · exact .nothing
  · exact .answer h ‹_›

/-- A step of a detach falls in its order, or not at all. -/
theorem detachStep_cases {step next : DetachStep} {h : HostId} (run : State → State) :
    detachStep step next h run s = s ∨
      ∃ d, (s.port h).detaching = some d ∧ d.next = step ∧
        detachStep step next h run s = run (stepped s h d next) := by
  unfold detachStep
  split
  · exact .inl rfl
  · split
    · exact .inr ⟨_, ‹_›, ‹_›, rfl⟩
    · exact .inl rfl

theorem detachStep_happens {step next : DetachStep} {h : HostId} {run : State → State}
    (falls : ∀ d, (s.port h).detaching = some d → d.next = step →
      Happening s (run (stepped s h d next))) :
    Happening s (detachStep step next h run s) := by
  rcases detachStep_cases (s := s) (step := step) (next := next) (h := h) run with
    same | ⟨d, busy, isNext, falling⟩
  · rw [same]
    exact .nothing
  · rw [falling]
    exact falls d busy isNext

theorem detachFreeClaim_happens {h : HostId} (row : exec (.detachFreeClaim h) s = .next t) :
    Happening s t := by
  simp only [exec, execDetachFreeClaim] at row
  split at row
  · cases row
    exact .nothing
  · split at row <;> cases row
    · exact .detachClaim h ‹_› ‹_›
    · exact .nothing

theorem claimExpiry_happens (row : exec .claimExpiry s = .next t) : Happening s t := by
  simp only [exec, execClaimExpiry] at row
  split at row
  · cases row
    exact .nothing
  · split at row <;> cases row
    · exact .claimExpiry ‹_›
    · exact .nothing

theorem holdTimeout_happens {h : HostId} (row : exec (.holdTimeout h) s = .next t) :
    Happening s t := by
  simp only [exec, execHoldTimeout] at row
  split at row <;> cases row
  · exact .holdTimeout h ‹_›
  · exact .nothing

theorem buildComplete_happens (row : exec .buildComplete s = .next t) : Happening s t := by
  simp only [exec, execBuildComplete] at row
  split at row <;> cases row
  · split
    · exact .buildAgain ‹_›
    · exact .buildReady ‹_›
  · exact .nothing

theorem slotStart_happens (row : exec .slotStart s = .next t) : Happening s t := by
  simp only [exec, execSlotStart] at row
  split at row <;> cases row
  · exact .slotStart ‹_›
  · exact .nothing

theorem exposureTimerExpiry_happens (row : exec .exposureTimerExpiry s = .next t) :
    Happening s t := by
  simp only [exec, execExposureTimerExpiry] at row
  split at row <;> cases row
  · exact .exposureExpiry
  · exact .nothing

theorem frameStart_happens (row : exec .frameStart s = .next t) : Happening s t := by
  simp only [exec, execFrameStart] at row
  split at row
  · rename_i f here
    split at row <;> cases row
    · exact .frameStart here ‹_›
    · exact .frameStartIgnored fun g same => by rw [here] at same; cases same; assumption
  · cases row
    rename_i absent
    exact .frameStartIgnored fun g same => by rw [absent] at same; cases same

theorem videoLine_happens {pixels : List Pixel} {cut : Bool}
    (row : exec (.videoLine pixels cut) s = .next t) : Happening s t := by
  simp only [exec, execVideoLine] at row
  split at row
  · split at row <;> cases row
    · exact .line ‹_› ..
    · exact .line ‹_› _ _ _ s.freeIndex
  · cases row
    exact .nothing

theorem frameEnd_happens (row : exec .frameEnd s = .next t) : Happening s t := by
  simp only [exec, execFrameEnd] at row
  split at row
  · split at row <;> cases row
    · exact .frameEnd ‹_› ‹_›
    · exact .nothing
  · cases row
    exact .nothing

theorem i2cTransactionBegin_happens (row : exec .i2cTransactionBegin s = .next t) :
    Happening s t := by
  simp only [exec, execI2cTransactionBegin] at row
  split at row
  · split at row <;> cases row
    · exact .setupBegin ‹_› _
    · exact .nothing
  · split at row <;> cases row
    · exact .directAgain ‹_› _ _ _
    · exact .nothing
  · cases row
    exact .nothing

theorem setupWriteEnd_happens {answer : BusAnswer} (row : exec (.setupWriteEnd answer) s = .next t) :
    Happening s t := by
  simp only [exec, execSetupWriteEnd] at row
  split at row
  · split at row
    · split at row <;> cases row
      · exact .writeAcknowledged ‹_› ..
      · exact .writeRefused ‹_› _
    · cases row
      exact .nothing
  · cases row
    exact .nothing

theorem drainEnd_happens {answer : BusAnswer} (row : exec (.drainEnd answer) s = .next t) :
    Happening s t := by
  simp only [exec, execDrainEnd] at row
  split at row <;> cases row
  · exact .drainEnd ‹_› answer
  · exact .nothing

theorem directRefused_happens {w : DirectWork} (working : s.link.state = .direct w) :
    Happening s (directRefused w s) := by
  unfold directRefused
  split
  · exact .directDone working _
  · exact .directAgain working ..

theorem directReadEnd_happens {answer : ReadAnswer}
    (row : exec (.directReadEnd answer) s = .next t) : Happening s t := by
  simp only [exec, execDirectReadEnd] at row
  split at row
  · split at row
    · split at row
      · split at row <;> cases row
        · exact .directDone ‹_› _
        · exact .nothing
      · cases row
        exact directRefused_happens ‹_›
    · cases row
      exact .nothing
  · cases row
    exact .nothing

theorem directWriteEnd_happens {answer : BusAnswer}
    (row : exec (.directWriteEnd answer) s = .next t) : Happening s t := by
  simp only [exec, execDirectWriteEnd] at row
  split at row
  · split at row
    · split at row <;> cases row
      · exact .directDone ‹_› _
      · exact directRefused_happens ‹_›
    · cases row
      exact .nothing
  · cases row
    exact .nothing

/-- Every row either takes a command or is one of the happenings. -/
theorem took_or_happened {i : Instr} (row : exec i s = .next t) :
    (∃ c h, Took c h s t) ∨ Happening s t := by
  cases i with
  | powerOn => cases row; exact .inr .powerOn
  | hrstPulse h => exact .inr (hrstPulse_happens row)
  | hrstRelease h => cases row; exact .inr (.hrstRelease h)
  | commandTransaction h m => exact .inr (commandTransaction_happens row)
  | responseRead h m => exact .inr (responseRead_happens row)
  | statusPoll h d m => exact .inr (statusPoll_happens row)
  | commandAnswer h => exact .inr (commandAnswer_happens row)
  | detachFreeRequests h =>
    cases row; exact .inr (detachStep_happens fun _ busy next => .detachRequests h busy next)
  | detachProfiles h =>
    cases row; exact .inr (detachStep_happens fun _ busy next => .detachProfiles h busy next)
  | detachEmptyRecordQueue h =>
    cases row; exact .inr (detachStep_happens fun _ busy next => .detachRecords h busy next)
  | detachEndDirectCommand h =>
    cases row; exact .inr (detachStep_happens fun _ busy next => .detachDirect h busy next)
  | detachFreeClaim h => exact .inr (detachFreeClaim_happens row)
  | claimExpiry => exact .inr (claimExpiry_happens row)
  | holdTimeout h => exact .inr (holdTimeout_happens row)
  | buildComplete => exact .inr (buildComplete_happens row)
  | slotStart => exact .inr (slotStart_happens row)
  | exposureTimerExpiry => exact .inr (exposureTimerExpiry_happens row)
  | frameStart => exact .inr (frameStart_happens row)
  | videoLine pixels cut => exact .inr (videoLine_happens row)
  | frameEnd => exact .inr (frameEnd_happens row)
  | i2cTransactionBegin => exact .inr (i2cTransactionBegin_happens row)
  | setupWriteEnd answer => exact .inr (setupWriteEnd_happens row)
  | drainEnd answer => exact .inr (drainEnd_happens row)
  | directReadEnd answer => exact .inr (directReadEnd_happens row)
  | directWriteEnd answer => exact .inr (directWriteEnd_happens row)
  | resetRelease => cases row; exact .inr .resetRelease
  | attach h => exact .inl ⟨.attach, h, took_of_exec row⟩
  | detach h => exact .inl ⟨.detach, h, took_of_exec row⟩
  | getStatus h => exact .inl ⟨.getStatus, h, took_of_exec row⟩
  | getNotice h => exact .inl ⟨.getNotice, h, took_of_exec row⟩
  | setAttention h => exact .inl ⟨.setAttention, h, took_of_exec row⟩
  | submit h => exact .inl ⟨.submit, h, took_of_exec row⟩
  | cancel h => exact .inl ⟨.cancel, h, took_of_exec row⟩
  | resume h => exact .inl ⟨.resume, h, took_of_exec row⟩
  | queryRequest h => exact .inl ⟨.queryRequest, h, took_of_exec row⟩
  | listRequests h => exact .inl ⟨.listRequests, h, took_of_exec row⟩
  | createProfile h => exact .inl ⟨.createProfile, h, took_of_exec row⟩
  | deleteProfile h => exact .inl ⟨.deleteProfile, h, took_of_exec row⟩
  | readProfile h => exact .inl ⟨.readProfile, h, took_of_exec row⟩
  | setExposure h => exact .inl ⟨.setExposure, h, took_of_exec row⟩
  | setLimits h => exact .inl ⟨.setLimits, h, took_of_exec row⟩
  | setTarget h => exact .inl ⟨.setTarget, h, took_of_exec row⟩
  | setWindow h => exact .inl ⟨.setWindow, h, took_of_exec row⟩
  | setSteps h => exact .inl ⟨.setSteps, h, took_of_exec row⟩
  | share h => exact .inl ⟨.share, h, took_of_exec row⟩
  | setMode h => exact .inl ⟨.setMode, h, took_of_exec row⟩
  | tune h => exact .inl ⟨.tune, h, took_of_exec row⟩
  | rebuild h => exact .inl ⟨.rebuild, h, took_of_exec row⟩
  | readSlot h => exact .inl ⟨.readSlot, h, took_of_exec row⟩
  | getCalendarInfo h => exact .inl ⟨.getCalendarInfo, h, took_of_exec row⟩
  | fetchRecord h => exact .inl ⟨.fetchRecord, h, took_of_exec row⟩
  | ackRecord h => exact .inl ⟨.ackRecord, h, took_of_exec row⟩
  | setHold h => exact .inl ⟨.setHold, h, took_of_exec row⟩
  | claim h => exact .inl ⟨.claim, h, took_of_exec row⟩
  | release h => exact .inl ⟨.release, h, took_of_exec row⟩
  | setConfig h => exact .inl ⟨.setConfig, h, took_of_exec row⟩
  | readConfig h => exact .inl ⟨.readConfig, h, took_of_exec row⟩
  | setQuota h => exact .inl ⟨.setQuota, h, took_of_exec row⟩
  | start h => exact .inl ⟨.start, h, took_of_exec row⟩
  | stop h => exact .inl ⟨.stop, h, took_of_exec row⟩
  | sensorRead h => exact .inl ⟨.sensorRead, h, took_of_exec row⟩
  | sensorWrite h => exact .inl ⟨.sensorWrite, h, took_of_exec row⟩
  | setMap h => exact .inl ⟨.setMap, h, took_of_exec row⟩

end Rows

/-- Every step does nothing, lets a microsecond pass, takes a command, or is one of the happenings; each of them on
a state that differs from the one before in the queue alone. -/
theorem keeps_of_cases {P : State → Prop} (queue : ∀ s q, P s → P { s with pending := q })
    (ticks : ∀ s, P s → P (tick s)) (takes : ∀ c h s t, Took c h s t → P s → P t)
    (happens : ∀ s t, Happening s t → P s → P t) {s t : State} (stepped : step s = .next t)
    (holds : P s) : P t := by
  refine step_induction (R := fun s t => P s → P t) (fun _ => id) ticks (fun i s t row => ?_)
    (fun s q t keeps holds => keeps (queue s q holds)) stepped holds
  rcases took_or_happened row with ⟨c, h, took⟩ | happened
  · exact takes c h s t took
  · exact happens s t happened

end Sys2Proof.Proofs

/-! What the Frame Sequencer's work keeps: a form that each of its parts keeps (records, judgement, occasions, swap,
notices, the link, the answer to a STOP) is kept by setup points, closes, halts, slot starts and runs. -/

namespace Sys2Proof.Proofs

open Sys2Proof.Machine Sys2Proof.Safety

/-! ### What the link's work leaves of the direct commands that wait -/

/-- The link's work keeps the direct commands of a port in their order, and adds none. -/
def KeepsSerials (s t : State) : Prop := ∀ h, (linkSerials t h).Sublist (linkSerials s h)

theorem KeepsSerials.refl (s : State) : KeepsSerials s s := fun _ => .refl _

theorem KeepsSerials.trans {s t u : State} (a : KeepsSerials s t) (b : KeepsSerials t u) :
    KeepsSerials s u := fun h => (b h).trans (a h)

/-- The serial number of the direct command that the link works on, if it is one of a port. -/
def stateSerials (l : LinkState) (h : HostId) : List Nat :=
  match l with
  | .direct w => if w.command.port = h then [w.command.serial] else []
  | _ => []

/-- The serial number of the direct command that waits for a drain, if it is one of a port. -/
def waitingSerials (w : Option WaitingWork) (h : HostId) : List Nat :=
  match w with
  | some (.direct c) => if c.port = h then [c.serial] else []
  | _ => []

theorem linkSerials_eq (s : State) (h : HostId) :
    linkSerials s h = stateSerials s.link.state h ++ waitingSerials s.link.waiting h := rfl

/-- A link whose state and waiting work hold no more than before. -/
theorem keepsSerials_of_parts {s t : State}
    (state : ∀ h, (stateSerials t.link.state h).Sublist (stateSerials s.link.state h))
    (waiting : ∀ h, (waitingSerials t.link.waiting h).Sublist (waitingSerials s.link.waiting h)) :
    KeepsSerials s t := fun h => (state h).append (waiting h)

theorem keepsSerials_of_link {s t : State} (same : t.link = s.link) : KeepsSerials s t := fun h => by
  rw [linkSerials_eq, linkSerials_eq, same]

theorem answerSetup_link (setup : Nat) (complete : Bool) (s : State) :
    (answerSetup setup complete s).link = s.link := by
  unfold answerSetup
  repeat' split
  all_goals rfl

theorem takeUpSetup_keepsSerials (r : SetupRequest) (s : State) : KeepsSerials s (takeUpSetup r s) := by
  unfold takeUpSetup
  split
  · exact KeepsSerials.trans (t := s.setLinkState .idle)
      (keepsSerials_of_parts (fun h => List.nil_sublist _) fun h => .refl _)
      (keepsSerials_of_link (answerSetup_link ..))
  · exact keepsSerials_of_parts (fun h => List.nil_sublist _) fun h => .refl _

theorem linkIdle_keepsSerials (s : State) : KeepsSerials s (linkIdle s) := by
  unfold linkIdle
  split
  · exact keepsSerials_of_parts (fun h => List.nil_sublist _) fun h => .refl _
  · exact (keepsSerials_of_parts (t := { s with link.state := .idle, link.waiting := none })
      (fun h => List.nil_sublist _) fun h => List.nil_sublist _).trans (takeUpSetup_keepsSerials _ _)
  · rename_i c waits
    intro h
    rw [linkSerials_eq s, waits]
    change List.Sublist (waitingSerials (some (.direct c)) h ++ []) _
    rw [List.append_nil]
    exact List.sublist_append_right ..

theorem handSetup_keepsSerials (r : SetupRequest) (s : State) : KeepsSerials s (handSetup r s) := by
  unfold handSetup
  split
  · exact takeUpSetup_keepsSerials _ _
  · exact keepsSerials_of_parts (fun h => .refl _) fun h => List.nil_sublist _

theorem endSetup_keepsSerials (setup : Nat) (s : State) : KeepsSerials s (endSetup setup s) := by
  unfold endSetup
  split
  · split
    · split
      · exact linkIdle_keepsSerials s
      · exact keepsSerials_of_parts (fun h => List.nil_sublist _) fun h => .refl _
    · exact .refl s
  · split
    · exact keepsSerials_of_parts (fun h => .refl _) fun h => List.nil_sublist _
    · exact .refl s
  · exact .refl s

theorem abandonNext_keepsSerials (s : State) : KeepsSerials s (abandonNext s) := by
  unfold abandonNext
  split
  · exact .refl s
  · exact (keepsSerials_of_link (t := s.setNext none) rfl).trans (endSetup_keepsSerials _ _)

theorem forgetShadow_touches (s : State) : TouchesLink s (forgetShadow s) := by
  unfold forgetShadow
  dsimp only
  split <;> rfl

theorem forgetShadow_keepsSerials (s : State) : KeepsSerials s (forgetShadow s) := by
  unfold forgetShadow
  dsimp only
  split
  · exact keepsSerials_of_parts (fun h => List.nil_sublist _) fun h => .refl _
  · exact .refl s

/-! ### A form that the Frame Sequencer's work keeps -/

/-- `t` differs from `s` in the Frame Sequencer, Frame Pass, the video output and the engine's state and fault
alone. -/
def Apart (s t : State) : Prop :=
  t = { s with sequencer := t.sequencer, framePass := t.framePass, videoOut := t.videoOut,
               engine := { s.engine with state := t.engine.state, fault := t.engine.fault } }

/-- A frame that is closed normally carries its statistics (R79, R106). -/
def Measured (c : FrameContext) (outcome : FrameOutcome) : Prop :=
  outcome = .normal → c.statistics.isSome = true

theorem measured_dropped (c : FrameContext) (reason : DropReason) : Measured c (.dropped reason) :=
  fun normal => nomatch normal

/-- The parts of the Frame Sequencer's work that a form is to be kept by. -/
structure FrameRule (P : State → Prop) : Prop where
  apart : ∀ {s t}, P s → Apart s t → P t
  link : ∀ {s t}, P s → TouchesLink s t → KeepsSerials s t → P t
  post : ∀ n s, P s → P (postToAll n s)
  compose : ∀ c outcome s h, Measured c outcome → P s → P (composeRecord c outcome s h)
  judge : ∀ c outcome s, P s → P (judgeFrame c outcome s)
  occasions : ∀ c outcome s, P s → P (countOccasions c outcome s)
  swap : ∀ sh s, s.calendar.builder = .ready sh → P s → P (swap sh s)
  answerStop : ∀ s, P s → P (answerStop s)

namespace FrameRule

variable {P : State → Prop} (rule : FrameRule P) {s : State}
include rule

theorem handSetup (r : SetupRequest) (holds : P s) : P (handSetup r s) :=
  rule.link holds (handSetup_touches ..) (handSetup_keepsSerials _ _)

theorem endSetup (setup : Nat) (holds : P s) : P (endSetup setup s) :=
  rule.link holds (endSetup_touches ..) (endSetup_keepsSerials _ _)

theorem abandonNext (holds : P s) : P (abandonNext s) :=
  rule.link holds (abandonNext_touches ..) (abandonNext_keepsSerials _)

theorem setUpSlot (index : Nat) (holds : P s) : P (setUpSlot index s) := by
  unfold Machine.setUpSlot
  split
  · split
    · split
      · exact rule.handSetup _ (rule.apart holds rfl)
      · exact holds
    · exact holds
  · exact holds

theorem swapIfReady (holds : P s) : P (swapIfReady s) := by
  unfold Machine.swapIfReady
  split
  · exact rule.swap _ s ‹_› holds
  · exact holds

theorem setupPoint (holds : P s) : P (setupPoint s) := by
  have marked : P { s with sequencer.nextIndex := nextIndexOf s, sequencer.setupDone := true } :=
    rule.apart holds rfl
  unfold Machine.setupPoint
  dsimp only
  split
  · exact rule.setUpSlot _ (rule.swapIfReady marked)
  · exact rule.setUpSlot _ marked

theorem setupPointIfDue (holds : P s) : P (setupPointIfDue s) := by
  unfold Machine.setupPointIfDue
  split
  · exact rule.setupPoint holds
  · exact holds

theorem composeRecords {c : FrameContext} {outcome : FrameOutcome} (measured : Measured c outcome)
    (holds : P s) : P (composeRecords c outcome s) :=
  List.foldlRecOn allHosts _ holds fun s holds h _ => rule.compose c outcome s h measured holds

theorem countFailure (outcome : FrameOutcome) (holds : P s) : P (countFailure outcome s) := by
  unfold Machine.countFailure
  split <;> exact rule.apart holds rfl

theorem endOfStop (holds : P s) : P (endOfStop s) :=
  rule.answerStop _ (rule.post _ _ (rule.apart holds rfl))

theorem closeFrame {c : FrameContext} {outcome : FrameOutcome} (measured : Measured c outcome)
    (holds : P s) : P (closeFrame c outcome s) := by
  have closed : P (Machine.countFailure outcome
      (Machine.countOccasions { c with outcome := some outcome } outcome
        (Machine.judgeFrame { c with outcome := some outcome } outcome
          (Machine.composeRecords { c with outcome := some outcome } outcome s)))) :=
    rule.countFailure _ (rule.occasions _ _ _ (rule.judge _ _ _ (rule.composeRecords (by exact measured) holds)))
  unfold Machine.closeFrame
  dsimp only
  split
  · exact rule.endOfStop closed
  · exact closed

theorem dropPresent (reason : DropReason) (holds : P s) : P (dropPresent reason s) := by
  unfold Machine.dropPresent
  split
  · exact holds
  · refine rule.closeFrame (measured_dropped _ _) ?_
    split <;> exact rule.apart holds rfl

theorem halt (fault : FaultCode) (holds : P s) : P (halt fault s) := by
  unfold Machine.halt
  split
  · have halted : P { s with engine.fault := fault, engine.state := .halted } :=
      rule.apart holds rfl
    exact rule.answerStop _ (rule.post _ _ (rule.apart
      (rule.abandonNext (rule.dropPresent _ halted)) (by exact rfl)))
  · exact holds

theorem startNext (holds : P s) : P (startNext s) := by
  unfold Machine.startNext
  dsimp only
  split
  · exact rule.apart holds rfl
  · split
    · exact rule.apart holds rfl
    · split
      · exact rule.closeFrame (measured_dropped _ _) (rule.apart holds rfl)
      · exact rule.closeFrame (measured_dropped _ _) (rule.endSetup _ (rule.apart holds rfl))

theorem handFaults (stall link : Bool) (holds : P s) : P (handFaults stall link s) := by
  unfold Machine.handFaults
  dsimp only
  cases stall <;> cases link
  · exact holds
  · exact rule.halt _ holds
  · exact rule.halt _ holds
  · exact rule.halt _ (rule.halt _ holds)

theorem slotStart (holds : P s) : P (slotStart s) := by
  have dropped : P (Machine.dropPresent .stall
      { s with sequencer.slotTimer := some s.engine.slotPeriod, sequencer.setupDone := false }) :=
    rule.dropPresent _ (rule.apart holds rfl)
  unfold Machine.slotStart
  dsimp only
  generalize Machine.dropPresent .stall _ = s1 at dropped ⊢
  have started : P (if s.engine.state = .running then Machine.startNext s1 else s1) := by
    split
    · exact rule.startNext dropped
    · exact dropped
  generalize (if s.engine.state = .running then Machine.startNext s1 else s1) = s2 at started ⊢
  split
  · exact rule.handFaults _ _ started
  · split
    · exact rule.setupPointIfDue started
    · exact started

theorem startEngine (holds : P s) : P (startEngine s) := by
  have running : P { forgetShadow { s with engine.fault := .none } with engine.state := .running } :=
    rule.apart (rule.link (rule.apart holds (by exact rfl)) (forgetShadow_touches _)
      (forgetShadow_keepsSerials _)) rfl
  exact rule.apart (rule.setupPoint (rule.apart (rule.post _ _ running) (by exact rfl))) rfl

theorem stopped (holds : P s) :
    P (postToAll { kind := .engineStopped, subject := 0, detail := 0 }
        (stopTimers { Machine.abandonNext s with engine.state := .stopped })) :=
  rule.post _ _ (rule.apart (rule.abandonNext holds) rfl)

theorem frameStarted (f : PresentFrame) (holds : P s) : P (frameStarted f s) :=
  rule.setupPointIfDue (rule.apart holds rfl)

theorem frameStartIgnored (holds : P s) : P (frameStartIgnored s) := by
  unfold Machine.frameStartIgnored
  split <;> exact rule.apart holds rfl

theorem frameEnded (f : PresentFrame) (holds : P s) : P (frameEnded f s) :=
  rule.closeFrame (fun _ => rfl) (rule.apart holds rfl)

end FrameRule

end Sys2Proof.Proofs

/-! Notices posted one after another: what they make of a port, and that the operations of the tables touch the
ports by posting notices alone. -/

namespace Sys2Proof.Proofs

open Sys2Proof.Machine Sys2Proof.Safety

/-! ### Notices posted one after another (R154, R155) -/

theorem told_congr {s t : State} (same : s.ports = t.ports) (notices : List (HostId × Notice)) :
    told notices s = told notices t := by
  unfold told
  induction notices generalizing s t with
  | nil => exact same
  | cons n rest ih =>
    refine ih ?_
    simp only [postNotice_eq, State.setPort, State.port, same]

@[simp] theorem told_nil (s : State) : told [] s = s.ports := rfl

theorem told_cons (n : HostId × Notice) (rest : List (HostId × Notice)) (s : State) :
    told (n :: rest) s = told rest (postNotice n.1 n.2 s) := rfl

theorem told_append (a b : List (HostId × Notice)) (s : State) :
    told (a ++ b) s = told b { s with ports := told a s } := by
  unfold told
  rw [List.foldl_append]
  exact told_congr (by rfl) b

/-- The notices that one port's queue takes, in order. -/
def toPort (h : HostId) (notices : List (HostId × Notice)) : List Notice :=
  (notices.filter fun n => n.1 == h).map (·.2)

/-- A port after notices: an ATTACHED one has taken its own in order, a DETACHED one is as it was. -/
theorem told_get (notices : List (HostId × Notice)) (s : State) (g : HostId) :
    (told notices s).get g =
      { s.port g with
        notices :=
          if (s.port g).attached then (toPort g notices).foldl joinNotice (s.port g).notices
          else (s.port g).notices } := by
  induction notices generalizing s with
  | nil =>
    simp only [told_nil, toPort, List.filter_nil, List.map_nil, List.foldl_nil, ite_self]
    rfl
  | cons n rest ih =>
    obtain ⟨h, n⟩ := n
    rw [told_cons, ih, postNotice_port]
    by_cases e : g = h
    · subst e
      cases attached : (s.port g).attached <;> simp [posted, attached, toPort]
    · have ne : h ≠ g := fun e' => e e'.symm
      simp [e, ne, toPort]

/-- `t` is `s` with its ports told some notices, whatever else differs. -/
def Posts (s t : State) : Prop := ∃ notices, t.ports = told notices s

namespace Posts

theorem of_ports {s t : State} (same : t.ports = s.ports) : Posts s t := ⟨[], same⟩

theorem refl (s : State) : Posts s s := of_ports rfl

theorem trans {s t u : State} (a : Posts s t) (b : Posts t u) : Posts s u := by
  obtain ⟨first, told₁⟩ := a
  obtain ⟨second, told₂⟩ := b
  refine ⟨first ++ second, ?_⟩
  rw [told_append, told₂]
  exact told_congr (by exact told₁) second

theorem foldl {α : Type} (f : State → α → State) (l : List α) (s : State)
    (each : ∀ s a, Posts s (f s a)) : Posts s (l.foldl f s) := by
  induction l generalizing s with
  | nil => exact refl s
  | cons a l ih => exact (each s a).trans (ih (f s a))

theorem foldl_flag {α : Type} (f : State × Bool → α → State × Bool) (l : List α)
    (acc : State × Bool) (each : ∀ acc a, Posts acc.1 (f acc a).1) :
    Posts acc.1 (l.foldl f acc).1 := by
  induction l generalizing acc with
  | nil => exact refl _
  | cons a l ih => exact (each acc a).trans (ih (f acc a))

/-- What telling a port notices leaves of it: all but its notices, and those too where it is DETACHED. -/
theorem port {s t : State} (posts : Posts s t) (g : HostId) :
    ∃ taken : List Notice, t.port g =
      { s.port g with
        notices :=
          if (s.port g).attached then taken.foldl joinNotice (s.port g).notices
          else (s.port g).notices } := by
  obtain ⟨notices, ports⟩ := posts
  refine ⟨toPort g notices, ?_⟩
  rw [State.port, ports, told_get]

end Posts

/-! ### The operations of the tables -/

theorem setTable_posts (s : State) (table : List Request) : Posts s (s.setTable table) := .of_ports rfl

theorem updateRequest_posts (h : HostId) (tag : Nat) (f : Request → Request) (s : State) :
    Posts s (s.updateRequest h tag f) := .of_ports rfl

theorem setProfile_posts (s : State) (id : Fin 16) (p : Option Profile) : Posts s (s.setProfile id p) :=
  .of_ports rfl

theorem setMailbox_posts (s : State) (h : HostId) (m : Mailbox) : Posts s (s.setMailbox h m) :=
  .of_ports rfl

theorem setCalendar_posts (s : State) (c : Calendar) : Posts s { s with calendar := c } := .of_ports rfl

theorem postNotice_posts (h : HostId) (n : Notice) (s : State) : Posts s (postNotice h n s) :=
  ⟨[(h, n)], rfl⟩

theorem postToAll_posts (n : Notice) (s : State) : Posts s (postToAll n s) :=
  .foldl _ allHosts s fun s h => postNotice_posts h n s

theorem rebuildIfWaiting_posts (left : Bool) (s : State) : Posts s (rebuildIfWaiting left s) := by
  rw [rebuildIfWaiting_eq]
  exact .of_ports rfl

theorem trigger_posts (s : State) : Posts s (trigger s) := by
  rw [trigger_eq]
  exact .of_ports rfl

theorem leaveCalendar_posts (r : Request) (s : State) : Posts s (leaveCalendar r s) := by
  rw [leaveCalendar_eq]
  exact .of_ports rfl

theorem lowerReference_posts (id : Fin 16) (s : State) : Posts s (lowerReference id s) := by
  cases held : s.profile id with
  | none => simp [lowerReference, held, Posts.refl]
  | some p =>
    rw [lowerReference_eq held]
    exact .of_ports rfl

theorem raiseReference_posts (id : Fin 16) (s : State) : Posts s (raiseReference id s) := by
  unfold raiseReference
  split <;> exact .of_ports rfl

theorem clearEntry_posts (r : Request) (s : State) : Posts s (clearEntry r s) :=
  (setTable_posts ..).trans (lowerReference_posts ..)

theorem freeEntry_posts (r : Request) (s : State) : Posts s (freeEntry r s) :=
  (leaveCalendar_posts r s).trans (clearEntry_posts ..)

theorem abortTune_posts (id : Fin 16) (s : State) : Posts s (abortTune id s) := by
  unfold abortTune
  split
  · exact .refl s
  · split
    · split
      · exact .refl s
      · split
        · exact (setProfile_posts s id _).trans (postNotice_posts ..)
        · exact .of_ports rfl
    · exact .refl s

theorem tellLeft_posts (r : Request) (s : State) : Posts s (tellLeft r s) := by
  unfold tellLeft
  split
  · exact abortTune_posts ..
  · exact .refl s

theorem suspend_posts (r : Request) (s : State) : Posts s (suspend r s) :=
  (((leaveCalendar_posts r s).trans (updateRequest_posts ..)).trans (postNotice_posts ..)).trans
    (tellLeft_posts ..)

theorem chargeMiss_posts (h : HostId) (acc : State × Bool) (tag : Nat) :
    Posts acc.1 (chargeMiss h acc tag).1 := by
  unfold chargeMiss
  split
  · exact .refl _
  · dsimp only
    split
    · exact (updateRequest_posts ..).trans (suspend_posts ..)
    · exact updateRequest_posts ..

theorem missReport_posts (h : HostId) (tags : List Nat) (s : State) :
    Posts s (missReport h tags s) :=
  (Posts.foldl_flag (chargeMiss h) tags (s, false) (chargeMiss_posts h)).trans
    (rebuildIfWaiting_posts ..)

theorem acknowledgementReport_posts (h : HostId) (tags : List Nat) (s : State) :
    Posts s (acknowledgementReport h tags s) :=
  .foldl _ tags s fun _ _ => .of_ports rfl

theorem countOccasion_posts (c : FrameContext) (acc : State × Bool) (pair : Subscriber) :
    Posts acc.1 (countOccasion c acc pair).1 := by
  unfold countOccasion
  split
  · exact .refl _
  · split
    · exact .refl _
    · split
      · split
        · exact (((leaveCalendar_posts ..).trans (postNotice_posts ..)).trans
            (clearEntry_posts ..)).trans (tellLeft_posts ..)
        · exact .of_ports rfl
      · exact .refl _

theorem countOccasions_posts (c : FrameContext) (outcome : FrameOutcome) (s : State) :
    Posts s (countOccasions c outcome s) := by
  unfold countOccasions
  split
  · exact .refl s
  · exact (Posts.foldl_flag (countOccasion c) c.subscribers (s, false)
      (countOccasion_posts c)).trans (rebuildIfWaiting_posts ..)

theorem endTune_posts (id : Fin 16) (p : Profile) (kind : NoticeKind) (frames : Nat) (s : State) :
    Posts s (endTune id p kind frames s) := by
  unfold endTune
  split
  · exact (setProfile_posts s id _).trans (postNotice_posts ..)
  · exact .of_ports rfl

theorem stepAuto_posts (id : Fin 16) (p : Profile) (mean : Nat) (s : State) :
    Posts s (stepAuto id p mean s) := by
  unfold stepAuto
  split
  · exact .refl s
  · exact setProfile_posts ..

theorem stepTuning_posts (id : Fin 16) (p : Profile) (loop : Loop) (mean : Nat) (s : State) :
    Posts s (stepTuning id p loop mean s) := by
  unfold stepTuning
  dsimp only
  split
  · exact endTune_posts ..
  · split
    · exact endTune_posts ..
    · exact .of_ports rfl

theorem judgeFrame_posts (c : FrameContext) (outcome : FrameOutcome) (s : State) :
    Posts s (judgeFrame c outcome s) := by
  unfold judgeFrame
  split
  · exact .refl s
  · split
    · dsimp only
      split
      · exact .refl s
      · exact stepAuto_posts ..
      · exact stepTuning_posts ..
    · exact .refl s

theorem setSwapState_posts (placed : List Placed) (s : State) (r : Request) :
    Posts s (setSwapState placed s r) := by
  unfold setSwapState
  dsimp only
  split
  · exact (updateRequest_posts ..).trans (postNotice_posts ..)
  · exact updateRequest_posts ..

theorem setSwapStates_posts (placed : List Placed) (s : State) :
    Posts s (setSwapStates placed s) :=
  (Posts.foldl _ _ _ (setSwapState_posts placed)).trans
    (.foldl _ _ _ fun t id => abortTune_posts id t)

theorem swap_posts (sh : Shadow) (s : State) : Posts s (swap sh s) := by
  unfold swap
  dsimp only
  exact (setCalendar_posts s _).trans
    ((setSwapStates_posts sh.placed _).trans ((setCalendar_posts _ _).trans (postToAll_posts ..)))

theorem freeRequestsOf_posts (h : HostId) (s : State) : Posts s (freeRequestsOf h s) :=
  (Posts.foldl_flag _ _ (s, false) fun _ _ =>
    (freeEntry_posts ..).trans (tellLeft_posts ..)).trans (rebuildIfWaiting_posts ..)

theorem cancelled_posts (r : Request) (s : State) : Posts s (cancelled r s) :=
  (((freeEntry_posts ..).trans (postNotice_posts ..)).trans (tellLeft_posts ..)).trans
    (rebuildIfWaiting_posts ..)

theorem admitRequest_posts (h : HostId) (a : SubmitArgs) (s : State) : Posts s (admitRequest h a s) := by
  refine Posts.trans ?_ (trigger_posts _)
  refine Posts.trans ?_ (raiseReference_posts ..)
  exact .of_ports rfl

theorem detachProfile_posts (h : HostId) (s : State) (id : Fin 16) :
    Posts s (detachProfile h s id) := by
  unfold detachProfile
  split
  · exact .refl s
  · split
    · split
      · refine (setProfile_posts s id _).trans (.foldl _ allHosts _ fun t h => ?_)
        split
        · exact postNotice_posts ..
        · exact .refl t
      · exact .of_ports rfl
    · exact .refl s

theorem buildReady_posts (snap : List Candidate) (s : State) : Posts s (buildReady snap s) := by
  refine (setCalendar_posts s _).trans
    (.foldl _ allHosts _ fun t h => ?_)
  split
  · exact postNotice_posts ..
  · exact .refl t

/-! ### Delivery -/

theorem offerRecord_posts (h : HostId) (r : Record) (s : State) : Posts s (offerRecord h r s) := by
  unfold offerRecord
  dsimp only
  split
  · exact .of_ports rfl
  · exact (setMailbox_posts s h _).trans (missReport_posts ..)

theorem composeRecord_posts (c : FrameContext) (outcome : FrameOutcome) (s : State) (h : HostId) :
    Posts s (composeRecord c outcome s h) := by
  unfold composeRecord
  split
  · exact .refl s
  · exact offerRecord_posts ..

theorem discardRecord_posts (h : HostId) (s : State) (r : Record) : Posts s (discardRecord h s r) :=
  (setMailbox_posts s h _).trans (missReport_posts ..)

theorem setHold_posts (h : HostId) (limit : Nat) (gone : List Record) (s : State) :
    Posts s (gone.foldl (discardRecord h) (s.setMailbox h { s.mailbox h with holdLimit := limit })) :=
  (setMailbox_posts s h _).trans (.foldl _ _ _ (discardRecord_posts h))

end Sys2Proof.Proofs

/-! The notice queues keep the form of R154: what joins a queue, what leaves it, and every step. -/

namespace Sys2Proof.Proofs

open Sys2Proof.Machine Sys2Proof.Safety

/-! ### A command taken, and what a form keeps of it -/

/-- A form is kept by a row that takes a command where it is kept by the taking, by the answer, by every effect,
and by what the three commands leave whose answer comes later. -/
theorem keeps_took {P : State → Prop} (taking : ∀ s h c, P s → P (taken s h c))
    (answers : ∀ s h cmd status results, P s → P (answering h cmd status results s))
    (effects : ∀ h cmd s t, Effect h cmd s t → P s → P t)
    (detaches : ∀ s h serial, P s → P (portDetach h (some serial) s))
    (stops : ∀ s h serial f, s.engine.state = .running → s.sequencer.present = some f → P s →
      P { abandonNext s with engine.state := .stopping, engine.stopWaiting := some (h, serial) })
    (directs : ∀ s c, P s → P (handDirect c (c.op.forget s)))
    (c : CommandCode) (h : HostId) (s t : State) (took : Took c h s t) (holds : P s) : P t := by
  rcases took with rfl | ⟨cmd, r, -, replies, rfl⟩
  · exact holds
  · have found := taking s h c holds
    cases replies with
    | answered a effect => exact answers _ _ _ _ _ (effects _ _ _ _ effect found)
    | detach => exact detaches _ _ _ found
    | stop running inFlight => exact stops _ _ _ _ running inFlight found
    | direct op => exact directs _ { port := h, serial := cmd.serial, op := op } found

/-! ### Answers that reach a buffer -/

theorem deliverAnswer_eq (h : HostId) (serial : Nat) (r : Response) (s : State) :
    deliverAnswer h serial r s =
      s.setPort h
        { s.port h with
          buffer := if (s.port h).buffer = .pending serial then .ready r else (s.port h).buffer } := by
  unfold deliverAnswer
  dsimp only
  split
  · rfl
  · exact (State.setPort_self s h).symm

theorem answerStop_none {s : State} (idle : s.engine.stopWaiting = none) : answerStop s = s := by
  simp only [answerStop, idle]

theorem answerStop_some {s : State} {h : HostId} {serial : Nat}
    (waits : s.engine.stopWaiting = some (h, serial)) :
    answerStop s =
      deliverAnswer h serial { status := .ok, results := beBytes 1 s.engine.state.code }
        { s with engine.stopWaiting := none } := by
  simp only [answerStop, waits]

/-- The answer to a STOP changes the waiting STOP and one port's buffer alone. -/
theorem answerStop_cases (s : State) :
    answerStop s = s ∨
      ∃ h buffer, answerStop s =
        { s with engine.stopWaiting := none }.setPort h { s.port h with buffer := buffer } := by
  rcases waits : s.engine.stopWaiting with _ | ⟨h, serial⟩
  · exact .inl (answerStop_none waits)
  · rw [answerStop_some waits, deliverAnswer_eq]
    exact .inr ⟨h, _, rfl⟩

/-! ### A frame that a port takes -/

/-- A frame taken is answered by the port itself or handed on, and the hand-on restarts the holder's claim timer
(R144, R162). -/
theorem checkFrame_cases (h : HostId) (serial : Nat) (frame : List Byte) (s : State) :
    (∃ r, checkFrame h serial frame s = sendAnswer h serial 20 r s) ∨
      ∃ c args, ((s.port h).attached = true ∨ needsNoAttach c = true) ∧
        checkFrame h serial frame s = handOn h serial c args s := by
  unfold checkFrame
  split
  · exact .inl ⟨_, rfl⟩
  · exact .inl ⟨_, rfl⟩
  · split
    · rename_i passes
      exact .inr ⟨_, _, by simpa using passes, rfl⟩
    · exact .inl ⟨_, rfl⟩

theorem restartClaim_eq (h : HostId) (s : State) :
    restartClaim h s =
      { s with
        engine.claim :=
          if s.holdsClaim h then some { holder := h, timer := s.engine.claimExpiry * 1000 }
          else s.engine.claim } := by
  unfold restartClaim
  split <;> rfl

theorem freeClaim_eq (h : HostId) (s : State) :
    freeClaim h s =
      { s with engine.claim := if s.holdsClaim h then none else s.engine.claim } := by
  unfold freeClaim
  split <;> rfl

theorem handOn_eq (h : HostId) (serial : Nat) (c : CommandCode) (args : List Byte) (s : State) :
    handOn h serial c args s =
      { s.setPort h
          { s.port h with
            handed := (s.port h).handed ++
              [{ serial := serial, code := c, args := args, stale := false, left := 20 }] } with
        engine.claim :=
          if s.holdsClaim h then some { holder := h, timer := s.engine.claimExpiry * 1000 }
          else s.engine.claim } := by
  unfold handOn
  rw [restartClaim_eq]
  rfl

/-! ### The link's own happenings -/

theorem setShadow_touches (k : ParamKind) (v : Option Nat) (s : State) :
    TouchesLink s (setShadow k v s) := rfl

theorem setShadow_keepsSerials (k : ParamKind) (v : Option Nat) (s : State) :
    KeepsSerials s (setShadow k v s) := fun _ => .refl _

theorem answerSetup_keepsSerials (setup : Nat) (complete : Bool) (s : State) :
    KeepsSerials s (answerSetup setup complete s) := keepsSerials_of_link (answerSetup_link ..)

theorem setupWork_keepsSerials {s : State} (w : SetupWork) : KeepsSerials s (s.setLinkState (.setup w)) :=
  keepsSerials_of_parts (fun _ => List.nil_sublist _) fun _ => .refl _

theorem writeAcknowledged_touches (w : SetupWork) (x : RegisterWrite) (rest : List RegisterWrite)
    (s : State) : TouchesLink s (writeAcknowledged w x rest s) := by
  unfold writeAcknowledged
  dsimp only
  split
  · exact ((setShadow_touches ..).trans (answerSetup_touches ..)).trans (linkIdle_touches _)
  · rfl

theorem writeAcknowledged_keepsSerials (w : SetupWork) (x : RegisterWrite)
    (rest : List RegisterWrite) (s : State) : KeepsSerials s (writeAcknowledged w x rest s) := by
  unfold writeAcknowledged
  dsimp only
  split
  · exact (answerSetup_keepsSerials _ _ (setShadow _ _ s)).trans (linkIdle_keepsSerials _)
  · exact setupWork_keepsSerials (s := setShadow _ _ s) _

theorem writeRefused_touches (w : SetupWork) (x : RegisterWrite) (s : State) :
    TouchesLink s (writeRefused w x s) := by
  unfold writeRefused
  dsimp only
  split
  · exact ((setShadow_touches ..).trans (answerSetup_touches ..)).trans (linkIdle_touches _)
  · rfl

theorem writeRefused_keepsSerials (w : SetupWork) (x : RegisterWrite) (s : State) :
    KeepsSerials s (writeRefused w x s) := by
  unfold writeRefused
  dsimp only
  split
  · exact (answerSetup_keepsSerials _ _ (setShadow _ _ s)).trans (linkIdle_keepsSerials _)
  · exact setupWork_keepsSerials (s := setShadow _ _ s) _

theorem recordDrain_touches (w : DrainWork) (answer : BusAnswer) (s : State) :
    TouchesLink s (recordDrain w answer s) := by
  unfold recordDrain
  repeat' split
  all_goals rfl

theorem recordDrain_keepsSerials (w : DrainWork) (answer : BusAnswer) (s : State) :
    KeepsSerials s (recordDrain w answer s) := by
  unfold recordDrain
  repeat' split
  all_goals exact fun _ => .refl _

theorem drainEnd_touches (w : DrainWork) (answer : BusAnswer) (s : State) :
    TouchesLink s (linkIdle (recordDrain w answer s)) :=
  (recordDrain_touches ..).trans (linkIdle_touches _)

theorem drainEnd_keepsSerials (w : DrainWork) (answer : BusAnswer) (s : State) :
    KeepsSerials s (linkIdle (recordDrain w answer s)) :=
  (recordDrain_keepsSerials _ _ s).trans (linkIdle_keepsSerials _)

theorem dropWaitingDirect_touches (h : HostId) (s : State) :
    TouchesLink s (dropWaitingDirect h s) := by
  unfold dropWaitingDirect
  repeat' split
  all_goals rfl

theorem dropWaitingDirect_keepsSerials (h : HostId) (s : State) :
    KeepsSerials s (dropWaitingDirect h s) := by
  unfold dropWaitingDirect
  repeat' split
  · exact keepsSerials_of_parts (fun _ => .refl _) fun _ => List.nil_sublist _
  all_goals exact .refl s

theorem endDirect_touches (h : HostId) (s : State) : TouchesLink s (endDirect h s) := by
  unfold endDirect
  repeat' split
  all_goals first | rfl | exact linkIdle_touches s

theorem endDirect_keepsSerials (h : HostId) (s : State) : KeepsSerials s (endDirect h s) := by
  unfold endDirect
  split
  · split
    · split
      · exact keepsSerials_of_parts (fun _ => List.nil_sublist _) fun _ => .refl _
      · exact linkIdle_keepsSerials s
    · exact .refl s
  · exact .refl s

theorem detachDirect_touches (h : HostId) (s : State) :
    TouchesLink s (endDirect h (dropWaitingDirect h s)) :=
  (dropWaitingDirect_touches ..).trans (endDirect_touches ..)

theorem detachDirect_keepsSerials (h : HostId) (s : State) :
    KeepsSerials s (endDirect h (dropWaitingDirect h s)) :=
  (dropWaitingDirect_keepsSerials h s).trans (endDirect_keepsSerials h _)

theorem forgetOverlapping_touches (register : BitVec 16) (count : Nat) (s : State) :
    TouchesLink s (forgetOverlapping register count s) := by
  unfold forgetOverlapping
  refine List.foldlRecOn (motive := TouchesLink s) allKinds _ (.refl s) fun t touches k _ => ?_
  split
  · exact touches.trans (setShadow_touches ..)
  · exact touches

theorem forgetOverlapping_keepsSerials (register : BitVec 16) (count : Nat) (s : State) :
    KeepsSerials s (forgetOverlapping register count s) := by
  unfold forgetOverlapping
  refine List.foldlRecOn (motive := KeepsSerials s) allKinds _ (.refl s) fun t keeps k _ => ?_
  split
  · exact keeps.trans (setShadow_keepsSerials _ _ t)
  · exact keeps

theorem forget_touches (op : DirectOp) (s : State) : TouchesLink s (op.forget s) := by
  cases op with
  | read => exact .refl s
  | write => exact forgetOverlapping_touches ..

theorem forget_keepsSerials (op : DirectOp) (s : State) : KeepsSerials s (op.forget s) := by
  cases op with
  | read => exact .refl s
  | write => exact forgetOverlapping_keepsSerials _ _ s

theorem handDirect_touches (c : DirectCommand) (s : State) : TouchesLink s (handDirect c s) := by
  unfold handDirect
  split <;> rfl

theorem direct_touches (c : DirectCommand) (s : State) :
    TouchesLink s (handDirect c (c.op.forget s)) :=
  (forget_touches ..).trans (handDirect_touches ..)

/-- The answer to a direct command reaches its buffer, and the link goes on. -/
theorem finishDirect_eq (w : DirectWork) (r : Response) (s : State) :
    finishDirect w r s = linkIdle (deliverAnswer w.command.port w.command.serial r s) := rfl

/-! ### The form of R154 -/

theorem noticesOk_nil : NoticesOk [] := by simp [NoticesOk]

theorem noticesOk_joinNotice {queue : List Notice} (ok : NoticesOk queue) (n : Notice) :
    NoticesOk (joinNotice queue n) := by
  rcases queue.eq_nil_or_concat with rfl | ⟨front, last, rfl⟩
  · simp [joinNotice_nil, NoticesOk]
  · obtain ⟨short, kept, full⟩ := ok
    simp only [List.concat_eq_append, List.length_append, List.length_singleton,
      List.dropLast_concat, List.getLast?_concat, Option.mem_def, Option.some.injEq,
      forall_eq'] at short kept full
    rw [List.concat_eq_append]
    by_cases lost : last.kind = .noticeLost
    · rw [joinNotice_lost lost]
      refine ⟨by simpa using short, by simpa using kept, fun _ => by simpa using lost⟩
    · have room : front.length + 1 ≠ 16 := fun all => lost (full all)
      rw [joinNotice_kept lost]
      refine ⟨by simp; omega, ?_, fun all => ?_⟩
      · simp only [List.dropLast_concat, List.mem_append, List.mem_singleton]
        rintro m (inFront | rfl)
        · exact kept m inFront
        · exact lost
      · have : ¬front.length + 2 < 16 := by simp at all; omega
        simp [this]

theorem noticesOk_foldl {queue : List Notice} (ok : NoticesOk queue) (notices : List Notice) :
    NoticesOk (notices.foldl joinNotice queue) := by
  induction notices generalizing queue with
  | nil => exact ok
  | cons n rest ih => exact ih (noticesOk_joinNotice ok n)

theorem noticesOk_tail {n : Notice} {rest : List Notice} (ok : NoticesOk (n :: rest)) :
    NoticesOk rest := by
  obtain ⟨short, kept, -⟩ := ok
  refine ⟨by simp at short; omega, fun m inRest => kept m ?_, fun all => by simp at short; omega⟩
  cases rest with
  | nil => exact absurd inRest (List.not_mem_nil)
  | cons a rest => exact List.mem_cons_of_mem _ inRest

/-! ### The four queues -/

theorem noticeQueuesOk_of_posts {s t : State} (ok : NoticeQueuesOk s) (posts : Posts s t) :
    NoticeQueuesOk t := fun h => by
  obtain ⟨taken, port⟩ := posts.port h
  rw [port]
  dsimp only
  split
  · exact noticesOk_foldl (ok h) taken
  · exact ok h

theorem noticeQueuesOk_of_ports {s t : State} (ok : NoticeQueuesOk s) (same : t.ports = s.ports) :
    NoticeQueuesOk t :=
  noticeQueuesOk_of_posts ok (.of_ports same)

theorem noticeQueuesOk_setPort {s : State} (ok : NoticeQueuesOk s) (h : HostId) {p : Port}
    (port : NoticesOk p.notices) : NoticeQueuesOk (s.setPort h p) := fun g => by
  rw [State.setPort_port]
  split
  · exact port
  · exact ok g

/-- A port replaced by one with the same notices. -/
theorem noticeQueuesOk_setPort_same {s : State} (ok : NoticeQueuesOk s) (h : HostId) {p : Port}
    (same : p.notices = (s.port h).notices) : NoticeQueuesOk (s.setPort h p) :=
  noticeQueuesOk_setPort ok h (same ▸ ok h)

theorem noticeQueuesOk_portDetach {s : State} (ok : NoticeQueuesOk s) (h : HostId)
    (answers : Option Nat) : NoticeQueuesOk (portDetach h answers s) :=
  noticeQueuesOk_setPort ok h noticesOk_nil

theorem noticeQueuesOk_deliverAnswer {s : State} (ok : NoticeQueuesOk s) (h : HostId) (serial : Nat)
    (r : Response) : NoticeQueuesOk (deliverAnswer h serial r s) := by
  rw [deliverAnswer_eq]
  exact noticeQueuesOk_setPort_same ok h rfl

theorem noticeQueuesOk_rule : FrameRule NoticeQueuesOk where
  apart ok apart := noticeQueuesOk_of_ports ok (by rw [apart])
  link ok touches _ := noticeQueuesOk_of_ports ok (by rw [touches])
  post n s ok := noticeQueuesOk_of_posts ok (postToAll_posts n s)
  compose c outcome s h _ ok := noticeQueuesOk_of_posts ok (composeRecord_posts c outcome s h)
  judge c outcome s ok := noticeQueuesOk_of_posts ok (judgeFrame_posts c outcome s)
  occasions c outcome s ok := noticeQueuesOk_of_posts ok (countOccasions_posts c outcome s)
  swap sh s _ ok := noticeQueuesOk_of_posts ok (swap_posts sh s)
  answerStop s ok := by
    rcases answerStop_cases s with same | ⟨h, buffer, answered⟩
    · rwa [same]
    · rw [answered]
      exact noticeQueuesOk_setPort_same (by exact ok) h rfl

theorem noticeQueuesOk_reset : NoticeQueuesOk State.reset := fun h => by
  cases h <;> exact noticesOk_nil

theorem setItem_ports (h : HostId) (s : State) (item : ConfigItem) :
    (setItem h s item).ports = s.ports := by cases item <;> rfl

theorem replaceEntry_ports (k : ParamKind) (e : MapEntry) (s : State) :
    (replaceEntry k e s).ports = s.ports := by
  unfold replaceEntry
  split <;> rfl

theorem noticeQueuesOk_effect (h : HostId) (cmd : Handed) (s t : State) (effect : Effect h cmd s t)
    (ok : NoticeQueuesOk s) : NoticeQueuesOk t := by
  cases effect with
  | nothing => exact ok
  | attach => exact noticeQueuesOk_setPort_same ok h rfl
  | getNotice _ head => exact noticeQueuesOk_setPort ok h (noticesOk_tail (head ▸ ok h))
  | setAttention => exact noticeQueuesOk_setPort_same ok h rfl
  | submit => exact noticeQueuesOk_of_posts ok (admitRequest_posts ..)
  | cancel => exact noticeQueuesOk_of_posts ok (cancelled_posts ..)
  | resume => exact noticeQueuesOk_of_posts ok ((updateRequest_posts ..).trans (trigger_posts _))
  | createProfile => exact noticeQueuesOk_of_ports ok rfl
  | edit => exact noticeQueuesOk_of_ports ok rfl
  | rebuild => exact noticeQueuesOk_of_posts ok (trigger_posts s)
  | ackRecord =>
    exact noticeQueuesOk_of_posts ok ((setMailbox_posts ..).trans (acknowledgementReport_posts ..))
  | setHold => exact noticeQueuesOk_of_posts ok (setHold_posts ..)
  | claim => exact noticeQueuesOk_of_ports ok rfl
  | release => exact noticeQueuesOk_of_ports ok rfl
  | setConfig => exact noticeQueuesOk_of_ports ok (setItem_ports ..)
  | setQuota => exact noticeQueuesOk_of_ports ok rfl
  | start => exact noticeQueuesOk_rule.startEngine ok
  | stop => exact noticeQueuesOk_rule.stopped ok
  | setMap => exact noticeQueuesOk_of_ports ok (replaceEntry_ports ..)

theorem noticeQueuesOk_stepped {s : State} (ok : NoticeQueuesOk s) (h : HostId) (d : Detach)
    (next : DetachStep) : NoticeQueuesOk (stepped s h d next) :=
  noticeQueuesOk_setPort_same ok h rfl

theorem noticeQueuesOk_sendAnswer {s : State} (ok : NoticeQueuesOk s) (h : HostId) (serial left : Nat)
    (r : Response) : NoticeQueuesOk (sendAnswer h serial left r s) :=
  noticeQueuesOk_setPort_same ok h rfl

theorem noticeQueuesOk_handOn {s : State} (ok : NoticeQueuesOk s) (h : HostId) (serial : Nat)
    (c : CommandCode) (args : List Byte) : NoticeQueuesOk (handOn h serial c args s) := by
  rw [handOn_eq]
  exact noticeQueuesOk_setPort_same (s := s) ok h rfl

theorem noticeQueuesOk_happening (s t : State) (happened : Happening s t) (ok : NoticeQueuesOk s) :
    NoticeQueuesOk t := by
  cases happened with
  | nothing => exact ok
  | powerOn => exact noticeQueuesOk_reset
  | resetRelease => exact ok
  | pulse h =>
    have pulsed : NoticeQueuesOk (s.setPort h (pulsed (s.port h))) :=
      noticeQueuesOk_setPort_same ok h rfl
    exact noticeQueuesOk_portDetach pulsed h none
  | pulseAgain h => exact noticeQueuesOk_setPort_same ok h rfl
  | hrstRelease h => exact noticeQueuesOk_setPort_same ok h rfl
  | transfer h touches =>
    rw [touches]
    exact noticeQueuesOk_setPort_same ok h rfl
  | discard h => exact noticeQueuesOk_setPort_same ok h rfl
  | takeFrame h frame =>
    have taken : NoticeQueuesOk (s.setPort h (taking (s.port h))) :=
      noticeQueuesOk_setPort_same ok h rfl
    rcases checkFrame_cases h (s.port h).nextSerial frame (s.setPort h (taking (s.port h))) with
      ⟨r, answered⟩ | ⟨c, args, -, handed⟩
    · rw [answered]
      exact noticeQueuesOk_sendAnswer taken _ _ _ _
    · rw [handed]
      exact noticeQueuesOk_handOn taken _ _ _ _
  | responseTaken h =>
    refine noticeQueuesOk_setPort_same ok h ?_
    unfold Port.responseTaken
    split <;> rfl
  | @answer h a rest =>
    have arrived : NoticeQueuesOk (s.setPort h { s.port h with answers := rest }) :=
      noticeQueuesOk_setPort_same ok h rfl
    exact noticeQueuesOk_deliverAnswer arrived _ _ _
  | detachRequests h =>
    exact noticeQueuesOk_of_posts (noticeQueuesOk_stepped ok h _ _) (freeRequestsOf_posts ..)
  | detachProfiles h =>
    exact noticeQueuesOk_of_posts (noticeQueuesOk_stepped ok h _ _)
      (.foldl _ _ _ (detachProfile_posts h))
  | detachRecords h =>
    exact noticeQueuesOk_of_posts (noticeQueuesOk_stepped ok h _ _) (setMailbox_posts ..)
  | detachDirect h =>
    exact noticeQueuesOk_rule.link (noticeQueuesOk_stepped ok h _ _) (detachDirect_touches ..)
      (detachDirect_keepsSerials _ _)
  | detachClaim h =>
    rw [freeClaim_eq]
    exact noticeQueuesOk_setPort_same (s := s) ok h rfl
  | claimExpiry =>
    have freed : NoticeQueuesOk { s with engine.claim := none } := ok
    exact noticeQueuesOk_of_posts freed (postNotice_posts ..)
  | holdTimeout h => exact noticeQueuesOk_of_posts ok (discardRecord_posts ..)
  | buildAgain => exact noticeQueuesOk_of_ports ok rfl
  | buildReady => exact noticeQueuesOk_of_posts ok (buildReady_posts ..)
  | slotStart => exact noticeQueuesOk_rule.slotStart ok
  | exposureExpiry => exact noticeQueuesOk_rule.setupPointIfDue ok
  | frameStart => exact noticeQueuesOk_rule.frameStarted _ ok
  | frameStartIgnored => exact noticeQueuesOk_rule.frameStartIgnored ok
  | line => exact ok
  | frameEnd => exact noticeQueuesOk_rule.frameEnded _ ok
  | setupBegin => exact ok
  | directAgain => exact ok
  | writeAcknowledged =>
    exact noticeQueuesOk_rule.link ok (writeAcknowledged_touches ..)
      (writeAcknowledged_keepsSerials _ _ _ s)
  | writeRefused =>
    exact noticeQueuesOk_rule.link ok (writeRefused_touches ..) (writeRefused_keepsSerials _ _ s)
  | drainEnd =>
    exact noticeQueuesOk_rule.link ok (drainEnd_touches ..) (drainEnd_keepsSerials _ _ s)
  | directDone =>
    exact noticeQueuesOk_rule.link (noticeQueuesOk_deliverAnswer ok _ _ _) (linkIdle_touches _)
      (linkIdle_keepsSerials _)

theorem noticeQueuesOk_tick {s : State} (ok : NoticeQueuesOk s) : NoticeQueuesOk (tick s) := fun h => by
  cases h
  · exact ok .h0
  · exact ok .h1
  · exact ok .h2
  · exact ok .h3

/-- Every step keeps the form of the notice queues (R154). -/
theorem step_keeps_noticeQueuesOk {s t : State} (stepped : step s = .next t) (ok : NoticeQueuesOk s) :
    NoticeQueuesOk t := by
  refine keeps_of_cases (fun s q ok => ok) (fun s ok => noticeQueuesOk_tick ok) ?_
    noticeQueuesOk_happening stepped ok
  refine keeps_took (fun s h c ok => noticeQueuesOk_setPort_same ok h rfl)
    (fun s h cmd status results ok => noticeQueuesOk_setPort_same ok h rfl) noticeQueuesOk_effect
    (fun s h serial ok => noticeQueuesOk_portDetach ok h _) (fun s h serial f _ _ ok => ?_)
    fun s c ok => noticeQueuesOk_of_ports ok (by rw [direct_touches c s])
  exact noticeQueuesOk_of_ports (noticeQueuesOk_rule.abandonNext ok) rfl

end Sys2Proof.Proofs

/-! The record queues keep the form of R128 and R130: what joins a queue, what leaves it, and every step. -/

namespace Sys2Proof.Proofs

open Sys2Proof.Machine Sys2Proof.Safety

/-! ### What else touches the tables alone -/

theorem cancelled_touches (r : Request) (s : State) : TouchesTables s (cancelled r s) :=
  (((freeEntry_touches ..).trans (postNotice_touches ..)).trans (tellLeft_touches ..)).trans
    (rebuildIfWaiting_touches ..)

theorem raiseReference_touches (id : Fin 16) (s : State) :
    TouchesTables s (raiseReference id s) := by
  unfold raiseReference
  split <;> rfl

theorem admitRequest_touches (h : HostId) (a : SubmitArgs) (s : State) :
    TouchesTables s (admitRequest h a s) := by
  refine TouchesTables.trans ?_ (trigger_touches _)
  refine TouchesTables.trans ?_ (raiseReference_touches ..)
  rfl

theorem detachProfile_touches (h : HostId) (s : State) (id : Fin 16) :
    TouchesTables s (detachProfile h s id) := by
  unfold detachProfile
  split
  · exact .refl s
  · split
    · split
      · refine TouchesTables.trans (t := s.setProfile id _) rfl (.foldl _ allHosts _ fun t h => ?_)
        split
        · exact postNotice_touches ..
        · exact .refl t
      · rfl
    · exact .refl s

theorem detachProfiles_touches (h : HostId) (s : State) :
    TouchesTables s (allProfileIds.foldl (detachProfile h) s) :=
  .foldl _ _ s (detachProfile_touches h)

theorem buildReady_touches (snap : List Candidate) (s : State) :
    TouchesTables s (buildReady snap s) := by
  unfold buildReady
  dsimp only
  refine (setCalendar_touches s _).trans (.foldl _ allHosts _ fun t h => ?_)
  split
  · exact postNotice_touches ..
  · exact .refl t

/-! ### The form of a queue (R128, R130, R132) -/

/-- A record queue and its companions have their form. -/
def MailboxOk (m : Mailbox) : Prop :=
  m.queue.length ≤ 8 ∧ m.pendingLoss ≤ 255 ∧ ∀ r ∈ m.queue, RecordOk r

theorem mailboxOk_atReset : MailboxOk .atReset := by simp [MailboxOk, Mailbox.atReset]

theorem saturatingSucc_le {top n : Nat} (_ : n ≤ top) : saturatingSucc top n ≤ top := by
  unfold saturatingSucc
  split <;> omega

/-- A queue that has lost records keeps its form. -/
theorem mailboxOk_sublist {m : Mailbox} (ok : MailboxOk m) {queue : List Record}
    (fewer : queue.Sublist m.queue) (limit : Nat) :
    MailboxOk { m with queue := queue, holdLimit := limit } := by
  obtain ⟨short, loss, records⟩ := ok
  exact ⟨fewer.length_le.trans short, loss, fun r here => records r (fewer.subset here)⟩

theorem mailboxOk_noteLost {m : Mailbox} (ok : MailboxOk m) (number : BitVec 32) :
    MailboxOk (m.noteLost number) := by
  obtain ⟨short, loss, records⟩ := ok
  exact ⟨short, saturatingSucc_le loss, records⟩

theorem mailboxOk_join {m : Mailbox} (ok : MailboxOk m) (room : m.queue.length < 8)
    (clock : BitVec 32) {r : Record} (served : r.tags ≠ [])
    (statistics : r.statistics.isSome = true ↔ r.outcome = .normal) : MailboxOk (m.join clock r) := by
  obtain ⟨-, loss, records⟩ := ok
  refine ⟨by simp only [Mailbox.join, List.length_append, List.length_singleton]; omega,
    Nat.zero_le _, fun x here => ?_⟩
  simp only [Mailbox.join, List.mem_append, List.mem_singleton] at here
  rcases here with here | rfl
  · exact records x here
  · refine ⟨served, statistics, fun n lost => ?_⟩
    dsimp only at lost
    split at lost <;> cases lost
    omega

/-! ### The four queues -/

theorem recordQueuesOk_of_boxes {s t : State} (ok : RecordQueuesOk s)
    (same : t.delivery.boxes = s.delivery.boxes) : RecordQueuesOk t := fun h => by
  rw [State.mailbox, same]
  exact ok h

theorem recordQueuesOk_of_touches {s t : State} (ok : RecordQueuesOk s) (touches : TouchesTables s t) :
    RecordQueuesOk t :=
  recordQueuesOk_of_boxes ok (by rw [touches])

theorem recordQueuesOk_of_link {s t : State} (ok : RecordQueuesOk s) (touches : TouchesLink s t) :
    RecordQueuesOk t :=
  recordQueuesOk_of_boxes ok (by rw [touches])

theorem recordQueuesOk_setMailbox {s : State} (ok : RecordQueuesOk s) {m : Mailbox}
    (box : MailboxOk m) (h : HostId) : RecordQueuesOk (s.setMailbox h m) := fun g => by
  rw [State.setMailbox_mailbox]
  split
  · exact box
  · exact ok g

theorem recordQueuesOk_discardRecord {s : State} (ok : RecordQueuesOk s) (h : HostId) (r : Record) :
    RecordQueuesOk (discardRecord h s r) :=
  recordQueuesOk_of_touches
    (recordQueuesOk_setMailbox ok
      (mailboxOk_noteLost (mailboxOk_sublist (ok h) List.erase_sublist _) _) h)
    (missReport_touches ..)

/-- A composed record has its form: a tag, and statistics exactly where its frame was closed normally. -/
theorem composedRecord_statistics {c : FrameContext} {outcome : FrameOutcome}
    (measured : Measured c outcome) (tags : List Nat) :
    (composedRecord c outcome tags).statistics.isSome = true ↔
      (composedRecord c outcome tags).outcome = .normal := by
  cases outcome with
  | normal => simp [composedRecord, FrameOutcome.isDropped, measured rfl]
  | dropped reason => simp [composedRecord, FrameOutcome.isDropped]

theorem recordQueuesOk_composeRecord {c : FrameContext} {outcome : FrameOutcome} {s : State}
    (h : HostId) (measured : Measured c outcome) (ok : RecordQueuesOk s) :
    RecordQueuesOk (composeRecord c outcome s h) := by
  unfold composeRecord
  split
  · exact ok
  · rename_i served
    unfold offerRecord
    dsimp only
    split
    · exact recordQueuesOk_setMailbox ok
        (mailboxOk_join (ok h) ‹_› _ served (composedRecord_statistics measured _)) h
    · exact recordQueuesOk_of_touches
        (recordQueuesOk_setMailbox ok (mailboxOk_noteLost (ok h) _) h) (missReport_touches ..)

theorem recordQueuesOk_answerStop {s : State} (ok : RecordQueuesOk s) :
    RecordQueuesOk (answerStop s) := by
  rcases answerStop_cases s with same | ⟨h, buffer, answered⟩
  · rwa [same]
  · rw [answered]
    exact recordQueuesOk_of_boxes ok rfl

theorem recordQueuesOk_rule : FrameRule RecordQueuesOk where
  apart ok apart := recordQueuesOk_of_boxes ok (by rw [apart])
  link ok touches _ := recordQueuesOk_of_link ok touches
  post n s ok := recordQueuesOk_of_touches ok (postToAll_touches n s)
  compose c outcome s h measured ok := recordQueuesOk_composeRecord h measured ok
  judge c outcome s ok := recordQueuesOk_of_touches ok (judgeFrame_touches c outcome s)
  occasions c outcome s ok := recordQueuesOk_of_touches ok (countOccasions_touches c outcome s)
  swap sh s _ ok := recordQueuesOk_of_touches ok (swap_touches sh s)
  answerStop s ok := recordQueuesOk_answerStop ok

theorem setItem_delivery (h : HostId) (s : State) (item : ConfigItem) :
    (setItem h s item).delivery = s.delivery := by cases item <;> rfl

theorem replaceEntry_touches (k : ParamKind) (e : MapEntry) (s : State) :
    TouchesLink s (replaceEntry k e s) := by
  unfold replaceEntry
  split <;> rfl

theorem recordQueuesOk_effect (h : HostId) (cmd : Handed) (s t : State) (effect : Effect h cmd s t)
    (ok : RecordQueuesOk s) : RecordQueuesOk t := by
  cases effect with
  | nothing => exact ok
  | attach =>
    exact recordQueuesOk_setMailbox (s := s.setPort h _) ok (mailboxOk_sublist (ok h) (.refl _) 0) h
  | getNotice => exact ok
  | setAttention => exact ok
  | submit => exact recordQueuesOk_of_touches ok (admitRequest_touches ..)
  | cancel => exact recordQueuesOk_of_touches ok (cancelled_touches ..)
  | resume => exact recordQueuesOk_of_touches ok ((updateRequest_touches ..).trans (trigger_touches _))
  | createProfile => exact ok
  | edit => exact ok
  | rebuild => exact recordQueuesOk_of_touches ok (trigger_touches s)
  | ackRecord head =>
    refine recordQueuesOk_of_touches (recordQueuesOk_setMailbox ok ?_ h)
      (acknowledgementReport_touches ..)
    exact mailboxOk_sublist (ok h) (head ▸ List.sublist_cons_self ..) _
  | setHold _ limit =>
    refine List.foldlRecOn _ _
      (recordQueuesOk_setMailbox ok (mailboxOk_sublist (ok h) (.refl _) limit) h) ?_
    exact fun t ok r _ => recordQueuesOk_discardRecord ok h r
  | claim => exact ok
  | release => exact ok
  | setConfig => exact recordQueuesOk_of_boxes ok (by rw [setItem_delivery])
  | setQuota => exact ok
  | start => exact recordQueuesOk_rule.startEngine ok
  | stop => exact recordQueuesOk_rule.stopped ok
  | setMap => exact recordQueuesOk_of_link ok (replaceEntry_touches ..)

theorem checkFrame_delivery (h : HostId) (serial : Nat) (frame : List Byte) (s : State) :
    (checkFrame h serial frame s).delivery = s.delivery := by
  rcases checkFrame_cases h serial frame s with ⟨r, same⟩ | ⟨c, args, -, same⟩
  · rw [same]
    rfl
  · rw [same, handOn_eq]
    rfl

theorem recordQueuesOk_happening (s t : State) (happened : Happening s t) (ok : RecordQueuesOk s) :
    RecordQueuesOk t := by
  cases happened with
  | powerOn => exact fun h => by cases h <;> exact mailboxOk_atReset
  | transfer h touches =>
    rw [touches]
    exact ok
  | takeFrame h frame => exact recordQueuesOk_of_boxes ok (by rw [checkFrame_delivery]; rfl)
  | answer h =>
    rw [deliverAnswer_eq]
    exact ok
  | detachRequests h =>
    exact recordQueuesOk_of_touches (s := stepped s h _ _) ok (freeRequestsOf_touches ..)
  | detachProfiles h =>
    exact recordQueuesOk_of_touches (s := stepped s h _ _) ok (detachProfiles_touches ..)
  | detachRecords h => exact recordQueuesOk_setMailbox (s := stepped s h _ _) ok mailboxOk_atReset h
  | detachDirect h => exact recordQueuesOk_of_link (s := stepped s h _ _) ok (detachDirect_touches ..)
  | detachClaim h =>
    rw [freeClaim_eq]
    exact ok
  | claimExpiry => exact recordQueuesOk_of_touches (s := { s with engine.claim := none }) ok (postNotice_touches ..)
  | holdTimeout h => exact recordQueuesOk_discardRecord ok h _
  | buildReady => exact recordQueuesOk_of_touches ok (buildReady_touches ..)
  | slotStart => exact recordQueuesOk_rule.slotStart ok
  | exposureExpiry => exact recordQueuesOk_rule.setupPointIfDue ok
  | frameStart => exact recordQueuesOk_rule.frameStarted _ ok
  | frameStartIgnored => exact recordQueuesOk_rule.frameStartIgnored ok
  | frameEnd => exact recordQueuesOk_rule.frameEnded _ ok
  | writeAcknowledged => exact recordQueuesOk_of_link ok (writeAcknowledged_touches ..)
  | writeRefused => exact recordQueuesOk_of_link ok (writeRefused_touches ..)
  | drainEnd => exact recordQueuesOk_of_link ok (drainEnd_touches ..)
  | @directDone w _ r =>
    refine recordQueuesOk_of_link ?_ (linkIdle_touches _)
    rw [deliverAnswer_eq]
    exact ok
  | _ => exact ok

/-- Every step keeps the form of the record queues (R128, R130). -/
theorem step_keeps_recordQueuesOk {s t : State} (stepped : step s = .next t) (ok : RecordQueuesOk s) :
    RecordQueuesOk t := by
  refine keeps_of_cases (fun s q ok => ok) (fun s ok => ok) ?_ recordQueuesOk_happening stepped ok
  refine keeps_took (fun s h c ok => ok) (fun s h cmd status results ok => ok) recordQueuesOk_effect
    (fun s h serial ok => ok) (fun s h serial f _ _ ok => ?_)
    fun s c ok => recordQueuesOk_of_link ok (direct_touches c s)
  exact recordQueuesOk_of_boxes (recordQueuesOk_of_link ok (abandonNext_touches s)) rfl

end Sys2Proof.Proofs

/-! The order of the record queues (R71, R130): what a close appends to them, and every step. -/

namespace Sys2Proof.Proofs

open Sys2Proof.Machine Sys2Proof.Safety

/-! ### What a setup point, a close and a halt touch -/

/-- `t` differs from `s` in the tables, the Sensor Link, and the next-slot place with its index and its mark
alone. -/
def TouchesSetup (s t : State) : Prop :=
  t = { s with ports := t.ports, requests := t.requests, profiles := t.profiles,
               calendar := t.calendar, link := t.link,
               sequencer :=
                 { s.sequencer with
                   nextIndex := t.sequencer.nextIndex, setupDone := t.sequencer.setupDone,
                   next := t.sequencer.next, nextSetup := t.sequencer.nextSetup } }

theorem TouchesSetup.refl (s : State) : TouchesSetup s s := rfl

theorem TouchesSetup.trans {s t u : State} (a : TouchesSetup s t) (b : TouchesSetup t u) :
    TouchesSetup s u := by
  unfold TouchesSetup at *
  rw [b, a]

theorem touchesSetup_of_tables {s t : State} (touches : TouchesTables s t) : TouchesSetup s t := by
  unfold TouchesTables at touches
  unfold TouchesSetup
  rw [touches]

theorem touchesSetup_of_link {s t : State} (touches : TouchesLink s t) : TouchesSetup s t := by
  unfold TouchesLink at touches
  unfold TouchesSetup
  rw [touches]

theorem beginSetup_touches (c : FrameContext) (s : State) : TouchesSetup s (beginSetup c s) := by
  unfold beginSetup
  refine TouchesSetup.trans ?_ (touchesSetup_of_link (handSetup_touches ..))
  rfl

theorem setUpSlot_touches (index : Nat) (s : State) : TouchesSetup s (setUpSlot index s) := by
  unfold setUpSlot
  split
  · split
    · split
      · exact beginSetup_touches ..
      · exact .refl s
    · exact .refl s
  · exact .refl s

theorem swapIfReady_touches (s : State) : TouchesTables s (swapIfReady s) := by
  unfold swapIfReady
  split
  · exact swap_touches ..
  · exact .refl s

theorem setupPoint_touches (s : State) : TouchesSetup s (setupPoint s) := by
  unfold setupPoint
  dsimp only
  refine TouchesSetup.trans ?_ (setUpSlot_touches ..)
  split
  · refine TouchesSetup.trans ?_ (touchesSetup_of_tables (swapIfReady_touches _))
    rfl
  · rfl

theorem setupPointIfDue_touches (s : State) : TouchesSetup s (setupPointIfDue s) := by
  unfold setupPointIfDue
  split
  · exact setupPoint_touches s
  · exact .refl s

/-- The close up to its failure counters, which is all of it but the end of a stop (R80, R81). -/
def closing (c : FrameContext) (outcome : FrameOutcome) (s : State) : State :=
  countFailure outcome
    (countOccasions { c with outcome := some outcome } outcome
      (judgeFrame { c with outcome := some outcome } outcome
        (composeRecords { c with outcome := some outcome } outcome s)))

theorem closeFrame_eq (c : FrameContext) (outcome : FrameOutcome) (s : State) :
    closeFrame c outcome s =
      if (closing c outcome s).engine.state = .stopping ∧
          reachedThree s.sequencer.stallFailures (closing c outcome s).sequencer.stallFailures = false
      then endOfStop (closing c outcome s) else closing c outcome s := rfl

theorem countFailure_eq (outcome : FrameOutcome) (s : State) :
    countFailure outcome s =
      { s with
        sequencer :=
          { s.sequencer with
            linkFailures := (countFailure outcome s).sequencer.linkFailures
            stallFailures := (countFailure outcome s).sequencer.stallFailures } } := by
  unfold countFailure
  split <;> rfl

/-- A close touches the tables, the record queues and the failure counters, but for the end of a stop. -/
theorem closing_eq (c : FrameContext) (outcome : FrameOutcome) (s : State) :
    ∃ ports requests profiles calendar boxes link stall,
      closing c outcome s =
        { s with
          ports := ports, requests := requests, profiles := profiles, calendar := calendar
          delivery := { s.delivery with boxes := boxes }
          sequencer := { s.sequencer with linkFailures := link, stallFailures := stall } } := by
  unfold closing
  rw [countFailure_eq, closeSteps_touch { c with outcome := some outcome } outcome s]
  exact ⟨_, _, _, _, _, _, _, rfl⟩

/-- A STOP answered: it waits no longer, and nothing but the ports is touched besides. -/
theorem answerStop_eq (s : State) :
    ∃ ports, answerStop s = { s with ports := ports, engine := { s.engine with stopWaiting := none } } := by
  rcases waits : s.engine.stopWaiting with _ | ⟨h, serial⟩
  · rw [answerStop_none waits, ← waits]
    exact ⟨_, rfl⟩
  · rw [answerStop_some waits, deliverAnswer_eq]
    exact ⟨_, rfl⟩

/-- The end of a stop touches the ports, the timers, the slot position, the engine's state and the waiting STOP
alone. -/
theorem endOfStop_eq (s : State) :
    ∃ ports, endOfStop s =
      { s with
        ports := ports
        sequencer :=
          { s.sequencer with slotTimer := none, exposureTimer := none, position := .absent }
        engine := { s.engine with state := .stopped, stopWaiting := none } } := by
  unfold endOfStop
  rw [postToAll_eq]
  obtain ⟨_, answered⟩ := answerStop_eq _
  rw [answered]
  exact ⟨_, rfl⟩

/-! ### The order of frame numbers (R71, R130) -/

theorem nextFrameNumber_ne_zero (n : BitVec 32) : nextFrameNumber n ≠ 0 := by
  unfold nextFrameNumber
  split
  · decide
  · assumption

/-- The next number is above every one that is not half way round behind. -/
theorem above_nextFrameNumber {n r : BitVec 32} (_ : r ≠ 0)
    (recent : (n - r).toNat < 2147483646) : Above (nextFrameNumber n) r := by
  refine ⟨nextFrameNumber_ne_zero n, .inr ?_⟩
  unfold nextFrameNumber
  split
  · rename_i wraps
    obtain rfl : n = -1 := by bv_omega
    bv_omega
  · bv_omega

/-! ### Records appended and taken away -/

theorem queued_of_boxes {s t : State} (same : t.delivery.boxes = s.delivery.boxes) (h : HostId) :
    queued t h = queued s h := by
  rw [queued, State.mailbox, same]
  rfl

theorem queued_of_tables {s t : State} (touches : TouchesTables s t) (h : HostId) :
    queued t h = queued s h := queued_of_boxes (by rw [touches]) h

theorem queued_setMailbox (s : State) (h : HostId) (m : Mailbox) (g : HostId) :
    queued (s.setMailbox h m) g = if g = h then m.queue else queued s g := by
  rw [queued, State.setMailbox_mailbox]
  split <;> rfl

theorem composeRecord_queued_other (c : FrameContext) (outcome : FrameOutcome) (s : State) {h g : HostId}
    (ne : g ≠ h) : queued (composeRecord c outcome s h) g = queued s g := by
  unfold composeRecord offerRecord
  split
  · rfl
  · dsimp only
    split
    · rw [queued_setMailbox, if_neg ne]
    · rw [queued_of_tables (missReport_touches ..), queued_setMailbox, if_neg ne]

theorem composeRecord_queued_self (c : FrameContext) (outcome : FrameOutcome) (s : State) (h : HostId) :
    queued (composeRecord c outcome s h) h = queued s h ∨
      ∃ r : Record, r.frameNumber = c.frameNumber.getD 0 ∧
        queued (composeRecord c outcome s h) h = queued s h ++ [r] := by
  unfold composeRecord offerRecord
  split
  · exact .inl rfl
  · dsimp only
    split
    · refine .inr ⟨{ composedRecord c outcome (servedTags s h c.subscribers) with
        lost := if (s.mailbox h).pendingLoss = 0 then none else some (s.mailbox h).pendingLoss
        arrival := s.delivery.clock }, rfl, ?_⟩
      rw [queued_setMailbox, if_pos rfl]
      rfl
    · refine .inl ?_
      rw [queued_of_tables (missReport_touches ..), queued_setMailbox, if_pos rfl]
      rfl

/-- Each queue of `t` is that of `s`, with at most one record more, of frame number `n`. -/
def Appends (n : BitVec 32) (s t : State) : Prop :=
  ∀ h, queued t h = queued s h ∨
    ∃ r : Record, r.frameNumber = n ∧ queued t h = queued s h ++ [r]

theorem foldl_composeRecord_other (c : FrameContext) (outcome : FrameOutcome) {g : HostId} (l : List HostId)
    (absent : g ∉ l) (s : State) : queued (l.foldl (composeRecord c outcome) s) g = queued s g := by
  induction l generalizing s with
  | nil => rfl
  | cons h rest ih =>
    rw [List.mem_cons, not_or] at absent
    rw [List.foldl_cons, ih absent.2, composeRecord_queued_other c outcome s absent.1]

theorem foldl_composeRecord_appends (c : FrameContext) (outcome : FrameOutcome) (l : List HostId)
    (distinct : l.Nodup) (s : State) :
    Appends (c.frameNumber.getD 0) s (l.foldl (composeRecord c outcome) s) := by
  induction l generalizing s with
  | nil => exact fun _ => .inl rfl
  | cons h rest ih =>
    intro g
    rw [List.nodup_cons] at distinct
    by_cases own : g = h
    · subst own
      rw [List.foldl_cons, foldl_composeRecord_other c outcome rest distinct.1]
      exact composeRecord_queued_self ..
    · rw [← composeRecord_queued_other c outcome s own]
      exact ih distinct.2 _ g

theorem composeRecords_appends (c : FrameContext) (outcome : FrameOutcome) (s : State) :
    Appends (c.frameNumber.getD 0) s (composeRecords c outcome s) :=
  foldl_composeRecord_appends c outcome allHosts (by decide) s

theorem Appends.congr {n : BitVec 32} {s t u : State} (appends : Appends n s t)
    (same : ∀ h, queued u h = queued t h) : Appends n s u := fun h => by
  rw [same]
  exact appends h

theorem closing_appends (c : FrameContext) (outcome : FrameOutcome) (s : State) :
    Appends (c.frameNumber.getD 0) s (closing c outcome s) := by
  refine (composeRecords_appends { c with outcome := some outcome } outcome s).congr fun h => ?_
  unfold closing
  rw [queued_of_boxes (s := countOccasions _ _ _) (by rw [countFailure_eq]),
    queued_of_tables (countOccasions_touches ..), queued_of_tables (judgeFrame_touches ..)]

/-- A close appends records with the number of its context, and leaves the counter and the present-slot
place. -/
theorem closeFrame_appends (c : FrameContext) (outcome : FrameOutcome) (s : State) :
    Appends (c.frameNumber.getD 0) s (closeFrame c outcome s) ∧
      (closeFrame c outcome s).sequencer.frameNumber = s.sequencer.frameNumber ∧
      (closeFrame c outcome s).sequencer.present = s.sequencer.present := by
  have appends := closing_appends c outcome s
  obtain ⟨_, _, _, _, _, _, _, closed⟩ := closing_eq c outcome s
  rw [closeFrame_eq]
  split
  · obtain ⟨_, ended⟩ := endOfStop_eq (closing c outcome s)
    exact ⟨appends.congr (queued_of_boxes (by rw [ended])), by rw [ended, closed], by rw [ended, closed]⟩
  · exact ⟨appends, by rw [closed], by rw [closed]⟩

/-! ### What keeps the order -/

/-- The order of the queues holds, and no record is so old that the wrap of the numbering upsets it. -/
def OrderRecent (s : State) : Prop := RecordsRecent s ∧ RecordOrderOk s

/-- `t` has the counter of `s`, no frame in flight and no record that `s` has not. -/
structure Steady (s t : State) : Prop where
  counter : t.sequencer.frameNumber = s.sequencer.frameNumber
  present : ∀ f, t.sequencer.present = some f →
    ∃ g, s.sequencer.present = some g ∧ f.context.frameNumber = g.context.frameNumber
  fewer : ∀ h, (queued t h).Sublist (queued s h)

theorem Steady.trans {s t u : State} (a : Steady s t) (b : Steady t u) : Steady s u where
  counter := b.counter.trans a.counter
  present f placed := by
    obtain ⟨g, before, same⟩ := b.present f placed
    obtain ⟨x, first, equal⟩ := a.present g before
    exact ⟨x, first, same.trans equal⟩
  fewer h := (b.fewer h).trans (a.fewer h)

theorem Steady.of_parts {s t : State} (counter : t.sequencer.frameNumber = s.sequencer.frameNumber)
    (present : t.sequencer.present = s.sequencer.present) (boxes : t.delivery.boxes = s.delivery.boxes) :
    Steady s t :=
  ⟨counter, fun f placed => ⟨f, present ▸ placed, rfl⟩, fun h => queued_of_boxes boxes h ▸ .refl _⟩

theorem Steady.of_eq {s t : State} (sequencer : t.sequencer = s.sequencer)
    (delivery : t.delivery = s.delivery) : Steady s t :=
  .of_parts (by rw [sequencer]) (by rw [sequencer]) (by rw [delivery])

theorem Steady.of_setup {s t : State} (touches : TouchesSetup s t) : Steady s t :=
  .of_parts (by rw [touches]) (by rw [touches]) (by rw [touches])

theorem Steady.of_tables {s t : State} (touches : TouchesTables s t) : Steady s t :=
  .of_setup (touchesSetup_of_tables touches)

theorem Steady.of_link {s t : State} (touches : TouchesLink s t) : Steady s t :=
  .of_setup (touchesSetup_of_link touches)

theorem recordOrderOk_of_steady {s t : State} (steady : Steady s t) (ok : RecordOrderOk s) :
    RecordOrderOk t where
  increasing h := (ok.increasing h).sublist (steady.fewer h)
  numbered h r here := by
    rw [steady.counter]
    exact ok.numbered h r ((steady.fewer h).subset here)
  inFlight f placed := by
    obtain ⟨g, before, same⟩ := steady.present f placed
    obtain ⟨number, nonzero, above⟩ := ok.inFlight g before
    rw [steady.counter, same]
    exact ⟨number, nonzero, fun h r here => above h r ((steady.fewer h).subset here)⟩

theorem recordsRecent_of_fewer {s t : State} (recent : RecordsRecent s)
    (counter : t.sequencer.frameNumber = s.sequencer.frameNumber)
    (fewer : ∀ h, (queued t h).Sublist (queued s h)) : RecordsRecent t := fun h r here => by
  rw [counter]
  exact recent h r ((fewer h).subset here)

theorem orderRecent_of_steady {s t : State} (steady : Steady s t) (ok : OrderRecent s) : OrderRecent t :=
  ⟨recordsRecent_of_fewer ok.1 steady.counter steady.fewer, recordOrderOk_of_steady steady ok.2⟩

/-- A record above every queued one joins the queues, no frame being in flight behind it. -/
theorem recordOrderOk_of_appends {s t : State} (ok : RecordOrderOk s)
    (counter : t.sequencer.frameNumber = s.sequencer.frameNumber)
    (empty : t.sequencer.present = none) (appends : Appends s.sequencer.frameNumber s t)
    (nonzero : s.sequencer.frameNumber ≠ 0)
    (above : ∀ h, ∀ r ∈ queued s h, Above s.sequencer.frameNumber r.frameNumber) : RecordOrderOk t where
  increasing h := by
    rcases appends h with same | ⟨r, number, joined⟩
    · exact same ▸ ok.increasing h
    · rw [joined, List.pairwise_append]
      refine ⟨ok.increasing h, List.pairwise_singleton .., fun a here b last => ?_⟩
      rw [List.mem_singleton.mp last, number]
      exact above h a here
  numbered h x here := by
    rw [counter]
    rcases appends h with same | ⟨r, number, joined⟩
    · exact ok.numbered h x (same ▸ here)
    · rw [joined, List.mem_append, List.mem_singleton] at here
      rcases here with old | rfl
      · exact ok.numbered h x old
      · exact ⟨number ▸ nonzero, .inl number⟩
  inFlight f placed := by
    rw [empty] at placed
    cases placed

theorem recordsRecent_of_appends {s t : State} (recent : RecordsRecent s)
    (counter : t.sequencer.frameNumber = s.sequencer.frameNumber)
    (appends : Appends s.sequencer.frameNumber s t) : RecordsRecent t := fun h x here => by
  rw [counter]
  rcases appends h with same | ⟨r, number, joined⟩
  · exact recent h x (same ▸ here)
  · rw [joined, List.mem_append, List.mem_singleton] at here
    rcases here with old | rfl
    · exact recent h x old
    · rw [number, BitVec.sub_self]
      decide

/-! ### The work of the Frame Sequencer -/

/-- The frame in flight closes: its records join the queues. -/
theorem closePresent_appends {s t : State} {f : PresentFrame} (placed : s.sequencer.present = some f)
    (ok : RecordOrderOk s) (counter : t.sequencer.frameNumber = s.sequencer.frameNumber)
    (empty : t.sequencer.present = none) (boxes : t.delivery.boxes = s.delivery.boxes)
    {c : FrameContext} (number : c.frameNumber = f.context.frameNumber) (outcome : FrameOutcome) :
    Appends s.sequencer.frameNumber s (closeFrame c outcome t) ∧ RecordOrderOk (closeFrame c outcome t) ∧
      (closeFrame c outcome t).sequencer.frameNumber = s.sequencer.frameNumber := by
  obtain ⟨appends, counter', present'⟩ := closeFrame_appends c outcome t
  obtain ⟨numbered, nonzero, above⟩ := ok.inFlight f placed
  rw [number, numbered] at appends
  have appends : Appends s.sequencer.frameNumber s (closeFrame c outcome t) := fun h => by
    rw [← queued_of_boxes boxes]
    exact appends h
  exact ⟨appends,
    recordOrderOk_of_appends ok (counter'.trans counter) (present'.trans empty) appends nonzero above,
    counter'.trans counter⟩

theorem dropPresent_recordOrderOk {s : State} (reason : DropReason) (ok : RecordOrderOk s) :
    RecordOrderOk (dropPresent reason s) := by
  unfold dropPresent
  split
  · exact ok
  · rename_i f placed
    exact (closePresent_appends placed ok (by split <;> rfl) (by split <;> rfl) (by split <;> rfl) rfl _).2.1

theorem dropPresent_recordsRecent {s : State} (reason : DropReason) (ok : OrderRecent s) :
    RecordsRecent (dropPresent reason s) := by
  unfold dropPresent
  split
  · exact ok.1
  · rename_i f placed
    obtain ⟨appends, -, counter⟩ := closePresent_appends (c := f.context)
      (t := match f.state with
        | .readout => releasePass { s with sequencer.present := none, sequencer.exposureTimer := none }
        | .exposing => { s with sequencer.present := none, sequencer.exposureTimer := none })
      placed ok.2 (by split <;> rfl) (by split <;> rfl) (by split <;> rfl) rfl (.dropped reason)
    exact recordsRecent_of_appends ok.1 counter appends

theorem dropPresent_empty (reason : DropReason) (s : State) :
    (dropPresent reason s).sequencer.present = none := by
  unfold dropPresent
  split
  · assumption
  · rw [(closeFrame_appends _ _ _).2.2]
    split <;> rfl

theorem abandonNext_steady (s : State) : Steady s (abandonNext s) :=
  .of_link (abandonNext_touches s)

theorem answerStop_steady (s : State) : Steady s (answerStop s) := by
  obtain ⟨_, answered⟩ := answerStop_eq s
  rw [answered]
  exact .of_eq rfl rfl

theorem halt_recordOrderOk {s : State} (fault : FaultCode) (ok : RecordOrderOk s) :
    RecordOrderOk (halt fault s) := by
  unfold halt
  split
  · have halted : RecordOrderOk (dropPresent .halt { s with engine.fault := fault, engine.state := .halted }) :=
      dropPresent_recordOrderOk _ (recordOrderOk_of_steady (s := s) (.of_eq rfl rfl) ok)
    refine recordOrderOk_of_steady (answerStop_steady _) (recordOrderOk_of_steady
      (.of_tables (postToAll_touches ..)) (recordOrderOk_of_steady ?_ (recordOrderOk_of_steady
        (abandonNext_steady _) halted)))
    exact .of_parts rfl rfl rfl
  · exact ok

theorem handFaults_recordOrderOk {s : State} (stall link : Bool) (ok : RecordOrderOk s) :
    RecordOrderOk (handFaults stall link s) := by
  unfold handFaults
  dsimp only
  cases stall <;> cases link
  · exact ok
  · exact halt_recordOrderOk _ ok
  · exact halt_recordOrderOk _ ok
  · exact halt_recordOrderOk _ (halt_recordOrderOk _ ok)

/-- The counter goes on: the next number is above every queued record. -/
theorem above_next {s t : State} (ok : OrderRecent s)
    (counter : t.sequencer.frameNumber = nextFrameNumber s.sequencer.frameNumber)
    (boxes : t.delivery.boxes = s.delivery.boxes) (h : HostId) :
    ∀ r ∈ queued t h, Above t.sequencer.frameNumber r.frameNumber := fun r here => by
  rw [queued_of_boxes boxes] at here
  rw [counter]
  exact above_nextFrameNumber (ok.2.numbered h r here).1 (ok.1 h r here)

theorem recordOrderOk_next {s t : State} (ok : OrderRecent s)
    (counter : t.sequencer.frameNumber = nextFrameNumber s.sequencer.frameNumber)
    (boxes : t.delivery.boxes = s.delivery.boxes)
    (present : ∀ f, t.sequencer.present = some f →
      f.context.frameNumber = some t.sequencer.frameNumber) : RecordOrderOk t where
  increasing h := by
    rw [queued_of_boxes boxes]
    exact ok.2.increasing h
  numbered h r here := by
    refine ⟨?_, .inr (above_next ok counter boxes h r here)⟩
    rw [queued_of_boxes boxes] at here
    exact (ok.2.numbered h r here).1
  inFlight f placed :=
    ⟨present f placed, counter ▸ nextFrameNumber_ne_zero _, above_next ok counter boxes⟩

/-- A frame that is dropped before its trigger closes with the number just given to it. -/
theorem closeNext_recordOrderOk {s t : State} (ok : OrderRecent s)
    (counter : t.sequencer.frameNumber = nextFrameNumber s.sequencer.frameNumber)
    (boxes : t.delivery.boxes = s.delivery.boxes) (empty : t.sequencer.present = none)
    {c : FrameContext} (number : c.frameNumber = some (nextFrameNumber s.sequencer.frameNumber))
    (outcome : FrameOutcome) : RecordOrderOk (closeFrame c outcome t) := by
  have next : RecordOrderOk t := recordOrderOk_next ok counter boxes fun f placed => by
    rw [empty] at placed
    cases placed
  obtain ⟨appends, counter', present'⟩ := closeFrame_appends c outcome t
  rw [number, ← counter] at appends
  exact recordOrderOk_of_appends next counter' (present'.trans empty) appends
    (counter ▸ nextFrameNumber_ne_zero _) (above_next ok counter boxes)

theorem startNext_recordOrderOk {s : State} (empty : s.sequencer.present = none) (ok : OrderRecent s) :
    RecordOrderOk (startNext s) := by
  unfold startNext
  dsimp only
  split
  · exact recordOrderOk_of_steady (s := s) (.of_parts rfl rfl rfl) ok.2
  · split
    · refine recordOrderOk_next ok rfl rfl fun f placed => ?_
      rw [← Option.some.inj placed]
      rfl
    · split
      · refine closeNext_recordOrderOk ok ?_ ?_ ?_ ?_ _
        · rfl
        · rfl
        · exact empty
        · rfl
      · exact closeNext_recordOrderOk ok (by rw [endSetup_touches]) (by rw [endSetup_touches])
          (by rw [endSetup_touches]; exact empty) rfl _

theorem slotStart_recordOrderOk {s : State} (ok : OrderRecent s) : RecordOrderOk (slotStart s) := by
  have marked : OrderRecent
      { s with sequencer.slotTimer := some s.engine.slotPeriod, sequencer.setupDone := false } :=
    orderRecent_of_steady (s := s) (.of_parts rfl rfl rfl) ok
  have dropped := dropPresent_recordOrderOk .stall marked.2
  have recent := dropPresent_recordsRecent .stall marked
  have empty := dropPresent_empty .stall
    { s with sequencer.slotTimer := some s.engine.slotPeriod, sequencer.setupDone := false }
  unfold slotStart
  dsimp only
  generalize dropPresent .stall _ = s1 at dropped recent empty ⊢
  have started : RecordOrderOk (if s.engine.state = .running then startNext s1 else s1) := by
    split
    · exact startNext_recordOrderOk empty ⟨recent, dropped⟩
    · exact dropped
  generalize (if s.engine.state = .running then startNext s1 else s1) = s2 at started ⊢
  split
  · exact handFaults_recordOrderOk _ _ started
  · split
    · exact recordOrderOk_of_steady (.of_setup (setupPointIfDue_touches _)) started
    · exact started

theorem startEngine_steady (s : State) : Steady s (startEngine s) := by
  have forgotten : Steady s (forgetShadow { s with engine.fault := .none }) :=
    Steady.trans (.of_eq (t := { s with engine.fault := .none }) rfl rfl) (.of_link (forgetShadow_touches _))
  have told := forgotten.trans (Steady.trans
    (.of_eq (t := { forgetShadow { s with engine.fault := .none } with engine.state := .running }) rfl rfl)
    (.of_tables (postToAll_touches { kind := .engineStarted, subject := 0, detail := 0 } _)))
  unfold startEngine
  dsimp only
  generalize postToAll _ _ = u at told ⊢
  refine told.trans (Steady.trans (t := setupPoint _) (Steady.trans ?_ (.of_setup (setupPoint_touches _)))
    (.of_parts rfl rfl rfl))
  exact ⟨rfl, fun f placed => (nomatch placed), fun h => .refl _⟩

/-! ### Every step -/

theorem steady_of_queue {s t : State} (sequencer : t.sequencer = s.sequencer) (h : HostId)
    (own : (queued t h).Sublist (queued s h)) (other : ∀ g, g ≠ h → queued t g = queued s g) : Steady s t :=
  ⟨by rw [sequencer], fun f placed => ⟨f, sequencer ▸ placed, rfl⟩, fun g => by
    by_cases same : g = h
    · exact same ▸ own
    · exact other g same ▸ .refl _⟩

theorem setMailbox_steady {s : State} (h : HostId) {m : Mailbox} (fewer : m.queue.Sublist (queued s h)) :
    Steady s (s.setMailbox h m) := by
  refine steady_of_queue rfl h ?_ fun g ne => ?_
  · rwa [queued_setMailbox, if_pos rfl]
  · rw [queued_setMailbox, if_neg ne]

theorem discardRecord_steady (h : HostId) (s : State) (r : Record) : Steady s (discardRecord h s r) := by
  unfold discardRecord
  exact (setMailbox_steady h List.erase_sublist).trans (.of_tables (missReport_touches ..))

theorem effect_steady (h : HostId) (cmd : Handed) (s t : State) (effect : Effect h cmd s t) : Steady s t := by
  cases effect with
  | attach =>
    refine Steady.trans (t := s.setPort h _) (.of_eq rfl rfl) (setMailbox_steady h ?_)
    exact .refl _
  | submit => exact .of_tables (admitRequest_touches ..)
  | cancel => exact .of_tables (cancelled_touches ..)
  | resume => exact .of_tables ((updateRequest_touches ..).trans (trigger_touches _))
  | rebuild => exact .of_tables (trigger_touches s)
  | ackRecord head =>
    refine (setMailbox_steady h ?_).trans (.of_tables (acknowledgementReport_touches ..))
    rw [queued, head]
    exact List.sublist_cons_self ..
  | setHold _ limit =>
    exact List.foldlRecOn _ _ (setMailbox_steady (s := s) h (.refl _))
      fun t steady r _ => steady.trans (discardRecord_steady h t r)
  | setConfig _ item => exact .of_eq (by cases item <;> rfl) (setItem_delivery ..)
  | start => exact startEngine_steady s
  | stop =>
    refine (abandonNext_steady s).trans (Steady.trans (t := stopTimers _) ?_ (.of_tables (postToAll_touches ..)))
    exact .of_parts rfl rfl rfl
  | setMap => exact .of_link (replaceEntry_touches ..)
  | _ => exact .of_eq rfl rfl

theorem stepped_steady (s : State) (h : HostId) (d : Detach) (next : DetachStep) :
    Steady s (Proofs.stepped s h d next) := .of_eq rfl rfl

theorem checkFrame_sequencer (h : HostId) (serial : Nat) (frame : List Byte) (s : State) :
    (checkFrame h serial frame s).sequencer = s.sequencer := by
  rcases checkFrame_cases h serial frame s with ⟨r, same⟩ | ⟨c, args, -, same⟩
  · rw [same]
    rfl
  · rw [same, handOn_eq]
    rfl

theorem recordOrderOk_happening (s t : State) (happened : Happening s t) (ok : OrderRecent s) :
    RecordOrderOk t := by
  cases happened with
  | powerOn =>
    exact ⟨fun h => by cases h <;> exact .nil, fun h r here => (by cases h <;> cases here),
      fun f placed => nomatch placed⟩
  | transfer h touches =>
    exact recordOrderOk_of_steady (.of_eq (by rw [touches]; rfl) (by rw [touches]; rfl)) ok.2
  | takeFrame h frame =>
    exact recordOrderOk_of_steady (s := s) (.of_eq (checkFrame_sequencer ..) (checkFrame_delivery ..)) ok.2
  | answer h =>
    rw [deliverAnswer_eq]
    exact recordOrderOk_of_steady (s := s) (.of_eq rfl rfl) ok.2
  | detachRequests h =>
    exact recordOrderOk_of_steady ((stepped_steady s h _ _).trans (.of_tables (freeRequestsOf_touches ..))) ok.2
  | detachProfiles h =>
    exact recordOrderOk_of_steady ((stepped_steady s h _ _).trans (.of_tables (detachProfiles_touches ..))) ok.2
  | detachRecords h =>
    exact recordOrderOk_of_steady ((stepped_steady s h _ _).trans (setMailbox_steady h (List.nil_sublist _))) ok.2
  | detachDirect h =>
    exact recordOrderOk_of_steady ((stepped_steady s h _ _).trans (.of_link (detachDirect_touches ..))) ok.2
  | detachClaim h =>
    rw [freeClaim_eq]
    exact recordOrderOk_of_steady (s := s) (.of_eq rfl rfl) ok.2
  | claimExpiry =>
    exact recordOrderOk_of_steady (s := s) (Steady.trans (t := { s with engine.claim := none })
      (.of_eq rfl rfl) (.of_tables (postNotice_touches ..))) ok.2
  | holdTimeout h => exact recordOrderOk_of_steady (discardRecord_steady h s _) ok.2
  | buildAgain => exact recordOrderOk_of_steady (s := s) (.of_eq rfl rfl) ok.2
  | buildReady => exact recordOrderOk_of_steady (.of_tables (buildReady_touches ..)) ok.2
  | slotStart => exact slotStart_recordOrderOk ok
  | exposureExpiry =>
    refine recordOrderOk_of_steady (s := s) (Steady.trans ?_ (.of_setup (setupPointIfDue_touches _))) ok.2
    exact .of_parts rfl rfl rfl
  | @frameStart f here =>
    refine recordOrderOk_of_steady (.of_setup (setupPointIfDue_touches _)) ?_
    refine recordOrderOk_of_steady (s := s) ⟨rfl, fun g placed => ?_, fun h => .refl _⟩ ok.2
    cases placed
    exact ⟨f, here, rfl⟩
  | frameStartIgnored =>
    unfold frameStartIgnored
    split <;> exact recordOrderOk_of_steady (s := s) (.of_eq rfl rfl) ok.2
  | frameEnd here =>
    refine (closePresent_appends here ok.2 ?_ ?_ ?_ ?_ _).2.1 <;> rfl
  | writeAcknowledged => exact recordOrderOk_of_steady (.of_link (writeAcknowledged_touches ..)) ok.2
  | writeRefused => exact recordOrderOk_of_steady (.of_link (writeRefused_touches ..)) ok.2
  | drainEnd => exact recordOrderOk_of_steady (.of_link (drainEnd_touches ..)) ok.2
  | @directDone w _ r =>
    refine recordOrderOk_of_steady (.of_link (linkIdle_touches _)) ?_
    rw [deliverAnswer_eq]
    exact recordOrderOk_of_steady (s := s) (.of_eq rfl rfl) ok.2
  | _ => exact recordOrderOk_of_steady (s := s) (.of_eq rfl rfl) ok.2

/-- Every step keeps the order of the record queues (R71, R130), no record being all too old. -/
theorem step_keeps_recordOrderOk {s t : State} (falls : step s = .next t) (recent : RecordsRecent s)
    (ok : RecordOrderOk s) : RecordOrderOk t := by
  refine step_induction (R := fun s t => OrderRecent s → RecordOrderOk t) (fun _ ok => ok.2) ?_ ?_
    (fun s q t keeps ok => keeps (orderRecent_of_steady (s := s) (.of_eq rfl rfl) ok)) falls ⟨recent, ok⟩
  · exact fun s ok => recordOrderOk_of_steady (s := s) (.of_parts rfl rfl rfl) ok.2
  · intro i s t row ok
    rcases took_or_happened row with ⟨c, h, took⟩ | happened
    · have keep {s t : State} (steady : Steady s t) (ok : OrderRecent s) : OrderRecent t :=
        orderRecent_of_steady steady ok
      refine (keeps_took (P := OrderRecent) (fun s h c => keep (.of_eq rfl rfl))
        (fun s h cmd status results => keep (.of_eq rfl rfl))
        (fun h cmd s t effect => keep (effect_steady h cmd s t effect))
        (fun s h serial => keep (.of_eq rfl rfl)) (fun s h serial f _ _ => keep ?_)
        (fun s c => keep (.of_link (direct_touches c s))) c h s t took ok).2
      exact (abandonNext_steady s).trans (.of_eq rfl rfl)
    · exact recordOrderOk_happening s t happened ok

/-- Settles O54: the forms of the queues go from step to step by what each row posts, joins and takes away. -/
theorem stepsKeepTheQueues : Obligations.StepsKeepTheQueues := fun _ _ stepped =>
  ⟨step_keeps_noticeQueuesOk stepped, step_keeps_recordQueuesOk stepped, step_keeps_recordOrderOk stepped⟩

end Sys2Proof.Proofs

/-! The engine, its timers, its two places and Frame Pass stay in agreement (R66, R67, R70, R81, R84, R85, R103, R167,
R169), and the claim with its host (R161). -/

namespace Sys2Proof.Proofs

open Sys2Proof.Machine Sys2Proof.Safety

/-! ### The link's work puts no context into an empty next-slot place -/

/-- An empty next-slot place stays empty. -/
def EmptyStays (s t : State) : Prop := s.sequencer.next = none → t.sequencer.next = none

theorem EmptyStays.trans {s t u : State} (a : EmptyStays s t) (b : EmptyStays t u) : EmptyStays s u :=
  fun empty => b (a empty)

theorem emptyStays_of_sequencer {s t : State} (same : t.sequencer = s.sequencer) : EmptyStays s t :=
  fun empty => by rw [same, empty]

theorem answerSetup_emptyStays (setup : Nat) (complete : Bool) (s : State) :
    EmptyStays s (answerSetup setup complete s) := fun empty => by
  unfold answerSetup
  rw [empty]
  exact empty

theorem takeUpSetup_emptyStays (r : SetupRequest) (s : State) : EmptyStays s (takeUpSetup r s) := by
  unfold takeUpSetup
  split
  · exact EmptyStays.trans (t := s.setLinkState .idle) id (answerSetup_emptyStays _ _ _)
  · exact id

theorem linkIdle_emptyStays (s : State) : EmptyStays s (linkIdle s) := by
  unfold linkIdle
  split
  · exact id
  · exact EmptyStays.trans (t := { s with link.state := .idle, link.waiting := none }) id
      (takeUpSetup_emptyStays _ _)
  · exact id

theorem handDirect_emptyStays (c : DirectCommand) (s : State) : EmptyStays s (handDirect c s) := by
  unfold handDirect takeUpDirect
  split <;> exact id

theorem forgetOverlapping_sequencer (register : BitVec 16) (count : Nat) (s : State) :
    (forgetOverlapping register count s).sequencer = s.sequencer := by
  unfold forgetOverlapping
  refine List.foldlRecOn (motive := fun t : State => t.sequencer = s.sequencer) allKinds _ rfl
    fun t same k _ => ?_
  split
  · exact same
  · exact same

theorem forget_sequencer (op : DirectOp) (s : State) : (op.forget s).sequencer = s.sequencer := by
  cases op with
  | read => rfl
  | write register bytes => exact forgetOverlapping_sequencer ..

theorem recordDrain_sequencer (w : DrainWork) (answer : BusAnswer) (s : State) :
    (recordDrain w answer s).sequencer = s.sequencer := by
  unfold recordDrain
  repeat' split
  all_goals rfl

theorem writeAcknowledged_emptyStays (w : SetupWork) (x : RegisterWrite) (rest : List RegisterWrite)
    (s : State) : EmptyStays s (writeAcknowledged w x rest s) := by
  unfold writeAcknowledged
  dsimp only
  split
  · exact EmptyStays.trans (t := setShadow x.kind (some x.value) s) id
      ((answerSetup_emptyStays _ _ _).trans (linkIdle_emptyStays _))
  · exact id

theorem writeRefused_emptyStays (w : SetupWork) (x : RegisterWrite) (s : State) :
    EmptyStays s (writeRefused w x s) := by
  unfold writeRefused
  dsimp only
  split
  · exact EmptyStays.trans (t := setShadow x.kind none s) id
      ((answerSetup_emptyStays _ _ _).trans (linkIdle_emptyStays _))
  · exact id

theorem endDirect_emptyStays (h : HostId) (s : State) : EmptyStays s (endDirect h s) := by
  unfold endDirect
  split
  · split
    · split
      · exact id
      · exact linkIdle_emptyStays s
    · exact id
  · exact id

theorem dropWaitingDirect_sequencer (h : HostId) (s : State) :
    (dropWaitingDirect h s).sequencer = s.sequencer := by
  unfold dropWaitingDirect
  repeat' split
  all_goals rfl

theorem endSetup_emptyStays (setup : Nat) (s : State) : EmptyStays s (endSetup setup s) := by
  unfold endSetup
  split
  · split
    · split
      · exact linkIdle_emptyStays s
      · exact id
    · exact id
  · split
    · exact id
    · exact id
  · exact id

theorem abandonNext_empty (s : State) : (abandonNext s).sequencer.next = none := by
  unfold abandonNext
  split
  · assumption
  · exact endSetup_emptyStays _ _ rfl

/-! ### The frame in flight and Frame Pass -/

/-- The frame in flight agrees with the exposure timer and Frame Pass, and the failure counters hold at 3, whatever
the engine's state. -/
structure FrameOk (s : State) : Prop where
  exposure : s.sequencer.exposureTimer.isSome = true →
    ∃ f, s.sequencer.present = some f ∧ f.state = .exposing
  pass : s.framePass ≠ .idle ↔ ∃ f, s.sequencer.present = some f ∧ f.state = .readout
  output : s.videoOut.frameValid = true ↔ s.framePass ≠ .idle
  failures : s.sequencer.linkFailures ≤ 3 ∧ s.sequencer.stallFailures ≤ 3

/-- The engine's state agrees with the slot timer, the slot position, the two places, the waiting STOP and the fault
code. -/
structure StateOk (s : State) : Prop where
  timer : s.sequencer.slotTimer.isSome = true ↔ runs s
  still : ¬ runs s → s.sequencer.next = none ∧ s.sequencer.present = none ∧ s.sequencer.position = .absent
  stopping : s.engine.state = .stopping → s.sequencer.next = none ∧ s.sequencer.present.isSome = true
  stopWaits : s.engine.stopWaiting.isSome = true ↔ s.engine.state = .stopping
  fault : s.engine.fault ≠ .none ↔ s.engine.state = .halted

theorem engineOk_iff (s : State) : EngineOk s ↔ FrameOk s ∧ StateOk s :=
  ⟨fun ⟨timer, still, stopping, stopWaits, fault, exposure, pass, output, failures⟩ =>
      ⟨⟨exposure, pass, output, failures⟩, ⟨timer, still, stopping, stopWaits, fault⟩⟩,
    fun ⟨⟨exposure, pass, output, failures⟩, ⟨timer, still, stopping, stopWaits, fault⟩⟩ =>
      ⟨timer, still, stopping, stopWaits, fault, exposure, pass, output, failures⟩⟩

/-- No frame in flight, no exposure timer, Frame Pass idle between frames, the counters within 3. -/
structure Cleared (s : State) : Prop where
  present : s.sequencer.present = none
  exposure : s.sequencer.exposureTimer = none
  pass : s.framePass = .idle
  output : s.videoOut.frameValid = false
  failures : s.sequencer.linkFailures ≤ 3 ∧ s.sequencer.stallFailures ≤ 3

theorem Cleared.frameOk {s : State} (cleared : Cleared s) : FrameOk s := by
  obtain ⟨present, exposure, pass, output, failures⟩ := cleared
  exact ⟨by simp [exposure], by simp [pass, present], by simp [output, pass], failures⟩

theorem FrameOk.cleared {s : State} (ok : FrameOk s) (empty : s.sequencer.present = none) : Cleared s := by
  have idle : s.framePass = .idle := by simpa [empty] using ok.pass
  refine ⟨empty, ?_, idle, by simpa [idle] using ok.output, ok.failures⟩
  simpa [empty] using ok.exposure

/-- A state whose frame in flight, exposure timer, Frame Pass, video output and counters are those of another. -/
theorem FrameOk.congr {s t : State} (ok : FrameOk s) (present : t.sequencer.present = s.sequencer.present)
    (exposure : t.sequencer.exposureTimer = s.sequencer.exposureTimer)
    (pass : t.framePass = s.framePass) (output : t.videoOut.frameValid = s.videoOut.frameValid)
    (link : t.sequencer.linkFailures = s.sequencer.linkFailures)
    (stall : t.sequencer.stallFailures = s.sequencer.stallFailures) : FrameOk t :=
  ⟨by rw [exposure, present]; exact ok.exposure, by rw [pass, present]; exact ok.pass,
    by rw [output, pass]; exact ok.output, by rw [link, stall]; exact ok.failures⟩

theorem FrameOk.setup {s t : State} (ok : FrameOk s) (touches : TouchesSetup s t) : FrameOk t := by
  refine ok.congr ?_ ?_ ?_ ?_ ?_ ?_ <;> rw [touches]

/-- A state of the same engine, the same timers and places. -/
theorem StateOk.congr {s t : State} (ok : StateOk s)
    (timer : t.sequencer.slotTimer.isSome = s.sequencer.slotTimer.isSome)
    (next : EmptyStays s t) (present : t.sequencer.present.isSome = s.sequencer.present.isSome)
    (position : t.sequencer.position = s.sequencer.position)
    (state : t.engine.state = s.engine.state) (fault : t.engine.fault = s.engine.fault)
    (waits : t.engine.stopWaiting = s.engine.stopWaiting) : StateOk t where
  timer := by rw [timer, runs, state]; exact ok.timer
  still := by
    rw [runs, state]
    intro still
    obtain ⟨empty, gone, absent⟩ := ok.still still
    exact ⟨next empty, by rwa [gone, Option.isSome_none, Option.isSome_eq_false_iff, Option.isNone_iff_eq_none] at present,
      position.trans absent⟩
  stopping := by
    rw [state, present]
    exact fun stopping => (ok.stopping stopping).imp_left next
  stopWaits := by rw [waits, state]; exact ok.stopWaits
  fault := by rw [fault, state]; exact ok.fault

/-- While RUNNING the next-slot place does not matter. -/
theorem StateOk.running {s t : State} (ok : StateOk s) (running : s.engine.state = .running)
    (timer : t.sequencer.slotTimer.isSome = s.sequencer.slotTimer.isSome)
    (state : t.engine.state = s.engine.state) (fault : t.engine.fault = s.engine.fault)
    (waits : t.engine.stopWaiting = s.engine.stopWaiting) : StateOk t where
  timer := by rw [timer, runs, state]; exact ok.timer
  still still := absurd (.inl (state.trans running)) still
  stopping stopping := by rw [state, running] at stopping; cases stopping
  stopWaits := by rw [waits, state]; exact ok.stopWaits
  fault := by rw [fault, state]; exact ok.fault

theorem engineOk_setup {s t : State} (ok : EngineOk s) (running : s.engine.state = .running)
    (touches : TouchesSetup s t) : EngineOk t := by
  rw [engineOk_iff] at ok ⊢
  refine ⟨ok.1.setup touches, ok.2.running running ?_ ?_ ?_ ?_⟩ <;> rw [touches]

theorem setupPointIfDue_engineOk {s : State} (ok : EngineOk s) : EngineOk (setupPointIfDue s) := by
  unfold setupPointIfDue
  split
  · rename_i due
    exact engineOk_setup ok due.1 (setupPoint_touches s)
  · exact ok

theorem engineOk_link {s t : State} (ok : EngineOk s) (touches : TouchesLink s t)
    (stays : EmptyStays s t) : EngineOk t := by
  rw [engineOk_iff] at ok ⊢
  refine ⟨ok.1.setup (touchesSetup_of_link touches), ok.2.congr ?_ stays ?_ ?_ ?_ ?_ ?_⟩ <;> rw [touches]

/-- A row that leaves the Frame Sequencer, Frame Pass, the output and the engine's run alone. -/
theorem engineOk_same {s t : State} (ok : EngineOk s) (sequencer : t.sequencer = s.sequencer)
    (pass : t.framePass = s.framePass) (output : t.videoOut = s.videoOut)
    (state : t.engine.state = s.engine.state) (fault : t.engine.fault = s.engine.fault)
    (waits : t.engine.stopWaiting = s.engine.stopWaiting) : EngineOk t := by
  rw [engineOk_iff] at ok ⊢
  refine ⟨ok.1.congr ?_ ?_ pass (by rw [output]) ?_ ?_,
    ok.2.congr ?_ (emptyStays_of_sequencer sequencer) ?_ ?_ state fault waits⟩ <;> rw [sequencer]

theorem engineOk_tables {s t : State} (ok : EngineOk s) (touches : TouchesTables s t) : EngineOk t := by
  refine engineOk_same ok ?_ ?_ ?_ ?_ ?_ ?_ <;> rw [touches]

/-! ### The close, the drop and the halt -/

theorem raiseFailures_le {n : Nat} (le : n ≤ 3) : raiseFailures n ≤ 3 := saturatingSucc_le le

theorem countFailure_le {outcome : FrameOutcome} {s : State}
    (le : s.sequencer.linkFailures ≤ 3 ∧ s.sequencer.stallFailures ≤ 3) :
    (countFailure outcome s).sequencer.linkFailures ≤ 3 ∧
      (countFailure outcome s).sequencer.stallFailures ≤ 3 := by
  obtain ⟨link, stall⟩ := le
  unfold countFailure
  split
  · exact ⟨Nat.zero_le _, Nat.zero_le _⟩
  · exact ⟨raiseFailures_le link, stall⟩
  · exact ⟨link, raiseFailures_le stall⟩
  · exact ⟨link, stall⟩
  · exact ⟨link, stall⟩

theorem closing_cleared (c : FrameContext) (outcome : FrameOutcome) {s : State} (cleared : Cleared s) :
    Cleared (closing c outcome s) := by
  obtain ⟨_, _, _, _, _, _, _, closed⟩ := closing_eq c outcome s
  have failures : (closing c outcome s).sequencer.linkFailures ≤ 3 ∧
      (closing c outcome s).sequencer.stallFailures ≤ 3 := by
    refine countFailure_le ?_
    rw [closeSteps_touch]
    exact cleared.failures
  refine ⟨?_, ?_, ?_, ?_, failures⟩ <;> rw [closed]
  · exact cleared.present
  · exact cleared.exposure
  · exact cleared.pass
  · exact cleared.output

/-- What a close leaves of the engine and of the slot timer: they go on, or, at the end of a stop, stop. -/
theorem closeFrame_cases (c : FrameContext) (outcome : FrameOutcome) (s : State) :
    (∃ ports requests profiles calendar boxes link stall, closeFrame c outcome s =
        { s with
          ports := ports, requests := requests, profiles := profiles, calendar := calendar
          delivery := { s.delivery with boxes := boxes }
          sequencer := { s.sequencer with linkFailures := link, stallFailures := stall } } ∧
        (s.engine.state = .stopping → reachedThree s.sequencer.stallFailures stall = true)) ∨
      s.engine.state = .stopping ∧
        ∃ ports requests profiles calendar boxes link stall, closeFrame c outcome s =
          { s with
            ports := ports, requests := requests, profiles := profiles, calendar := calendar
            delivery := { s.delivery with boxes := boxes }
            sequencer :=
              { s.sequencer with
                linkFailures := link, stallFailures := stall, slotTimer := none, exposureTimer := none
                position := .absent }
            engine := { s.engine with state := .stopped, stopWaiting := none } } ∧
          reachedThree s.sequencer.stallFailures stall = false := by
  obtain ⟨_, _, _, _, _, _, _, closed⟩ := closing_eq c outcome s
  rw [closeFrame_eq]
  split
  · rename_i ends
    obtain ⟨_, ended⟩ := endOfStop_eq (closing c outcome s)
    rw [ended]
    rw [closed] at ends ⊢
    exact .inr ⟨ends.1, _, _, _, _, _, _, _, rfl, ends.2⟩
  · rename_i goes
    rw [closed] at goes ⊢
    exact .inl ⟨_, _, _, _, _, _, _, rfl, fun stopping => by simpa [stopping] using goes⟩

theorem closeFrame_cleared (c : FrameContext) (outcome : FrameOutcome) {s : State} (cleared : Cleared s) :
    Cleared (closeFrame c outcome s) := by
  have closed := closing_cleared c outcome cleared
  rw [closeFrame_eq]
  split
  · obtain ⟨_, ended⟩ := endOfStop_eq (closing c outcome s)
    rw [ended]
    exact ⟨closed.present, rfl, closed.pass, closed.output, closed.failures⟩
  · exact closed

/-- A close in an engine that is not STOPPING leaves its run as it was. -/
theorem closeFrame_same (c : FrameContext) (outcome : FrameOutcome) {s : State}
    (state : s.engine.state ≠ .stopping) :
    (closeFrame c outcome s).engine = s.engine ∧
      (closeFrame c outcome s).sequencer.slotTimer = s.sequencer.slotTimer ∧
      (closeFrame c outcome s).sequencer.next = s.sequencer.next ∧
      (closeFrame c outcome s).sequencer.position = s.sequencer.position := by
  rcases closeFrame_cases c outcome s with ⟨_, _, _, _, _, _, _, closed, -⟩ | ⟨stopping, -⟩
  · rw [closed]
    exact ⟨rfl, rfl, rfl, rfl⟩
  · exact absurd stopping state

/-- A frame closes in an engine that is RUNNING. -/
theorem closeFrame_running (c : FrameContext) (outcome : FrameOutcome) {s t : State} (ok : StateOk s)
    (running : s.engine.state = .running) (cleared : Cleared t) (engine : t.engine = s.engine)
    (timer : t.sequencer.slotTimer.isSome = s.sequencer.slotTimer.isSome) :
    EngineOk (closeFrame c outcome t) := by
  obtain ⟨engine', timer', -⟩ := closeFrame_same c outcome (s := t) (by rw [engine, running]; exact (nomatch ·))
  rw [engineOk_iff]
  refine ⟨(closeFrame_cleared c outcome cleared).frameOk, ok.running running (by rw [timer', timer]) ?_ ?_ ?_⟩
    <;> rw [engine', engine]

/-- The state in which the frame in flight has left its place, before it is closed DROPPED (R76, R83, R108). -/
def dropping (f : PresentFrame) (s : State) : State :=
  let t : State := { s with sequencer.present := none, sequencer.exposureTimer := none }
  match f.state with
  | .readout => releasePass t
  | .exposing => t

theorem dropPresent_none {s : State} (empty : s.sequencer.present = none) (reason : DropReason) :
    dropPresent reason s = s := by
  unfold dropPresent
  rw [empty]

theorem dropPresent_some {s : State} {f : PresentFrame} (placed : s.sequencer.present = some f)
    (reason : DropReason) :
    dropPresent reason s = closeFrame f.context (.dropped reason) (dropping f s) := by
  unfold dropPresent
  rw [placed]
  rfl

theorem dropping_eq (f : PresentFrame) (s : State) :
    ∃ pass output, dropping f s =
      { s with framePass := pass, videoOut := output,
               sequencer := { s.sequencer with present := none, exposureTimer := none } } := by
  unfold dropping
  dsimp only
  split <;> exact ⟨_, _, rfl⟩

theorem dropping_cleared {f : PresentFrame} {s : State} (ok : FrameOk s)
    (placed : s.sequencer.present = some f) : Cleared (dropping f s) := by
  unfold dropping
  dsimp only
  split
  · exact ⟨rfl, rfl, rfl, rfl, ok.failures⟩
  · rename_i exposing
    have idle : s.framePass = .idle := by
      have pass := ok.pass
      simpa [placed, exposing] using pass
    exact ⟨rfl, rfl, idle, by simpa [idle] using ok.output, ok.failures⟩

theorem dropPresent_cleared {s : State} (ok : FrameOk s) (reason : DropReason) :
    Cleared (dropPresent reason s) := by
  rcases placed : s.sequencer.present with _ | f
  · rw [dropPresent_none placed]
    exact ok.cleared placed
  · rw [dropPresent_some placed]
    exact closeFrame_cleared _ _ (dropping_cleared ok placed)

/-- A drop in an engine that is not STOPPING leaves its run as it was. -/
theorem dropPresent_same {s : State} (reason : DropReason) (state : s.engine.state ≠ .stopping) :
    (dropPresent reason s).engine = s.engine ∧
      (dropPresent reason s).sequencer.slotTimer = s.sequencer.slotTimer := by
  rcases placed : s.sequencer.present with _ | f
  · rw [dropPresent_none placed]
    exact ⟨rfl, rfl⟩
  · rw [dropPresent_some placed]
    obtain ⟨_, _, dropped⟩ := dropping_eq f s
    obtain ⟨engine, timer, -⟩ :=
      closeFrame_same f.context (.dropped reason) (s := dropping f s) (by rw [dropped]; exact state)
    rw [engine, timer, dropped]
    exact ⟨rfl, rfl⟩

/-- The frame in flight, the next-slot context and the timers gone, the engine's state set: an engine at rest. -/
theorem engineOk_rest {s : State} (cleared : Cleared s) (timer : s.sequencer.slotTimer = none)
    (next : s.sequencer.next = none) (position : s.sequencer.position = .absent)
    (waits : s.engine.stopWaiting = none) (state : s.engine.state = .stopped ∨ s.engine.state = .halted)
    (fault : s.engine.fault ≠ .none ↔ s.engine.state = .halted) : EngineOk s := by
  have still : ¬ runs s := by rcases state with state | state <;> simp [runs, state]
  rw [engineOk_iff]
  refine ⟨cleared.frameOk, by simp [timer, still], fun _ => ⟨next, cleared.present, position⟩, fun stopping => ?_,
    ?_, fault⟩
  · rcases state with state | state <;> rw [state] at stopping <;> cases stopping
  · rcases state with state | state <;> simp [waits, state]

/-- A halt of an engine in which slots run, and any fault handed to another (R83, R170). -/
theorem halt_engineOk {s : State} {fault : FaultCode} (isFault : fault ≠ .none) (frame : FrameOk s)
    (still : ¬ runs s → EngineOk s) : EngineOk (halt fault s) := by
  unfold halt
  split
  · have halted : FrameOk { s with engine.fault := fault, engine.state := .halted } :=
      frame.congr rfl rfl rfl rfl rfl rfl
    have cleared := dropPresent_cleared halted .halt
    have engine := (dropPresent_same .halt
      (s := { s with engine.fault := fault, engine.state := .halted }) (nomatch ·)).1
    generalize dropPresent .halt _ = d at cleared engine ⊢
    have empty := abandonNext_empty d
    have touches := abandonNext_touches d
    generalize abandonNext d = a at empty touches ⊢
    rw [postToAll_eq]
    obtain ⟨_, answered⟩ := answerStop_eq { stopTimers a with
      ports := postedToAll { kind := .engineHalted, subject := 0, detail := fault.code } (stopTimers a) }
    rw [answered]
    have state : a.engine = d.engine := by rw [touches]
    obtain ⟨present, exposure, pass, output, failures⟩ := cleared
    refine engineOk_rest ⟨?_, rfl, ?_, ?_, ?_⟩ rfl empty rfl rfl ?_ ?_
    · rw [touches]; exact present
    · rw [touches]; exact pass
    · rw [touches]; exact output
    · rw [touches]; exact failures
    · exact .inr (by simp [stopTimers, state, engine])
    · simp [stopTimers, state, engine, isFault]
  · rename_i stands
    exact still stands

theorem handFaults_engineOk {s : State} {stall link : Bool} (some : (stall || link) = true) (frame : FrameOk s)
    (still : ¬ runs s → EngineOk s) : EngineOk (handFaults stall link s) := by
  unfold handFaults
  dsimp only
  cases stall <;> cases link
  · cases some
  · exact halt_engineOk (nomatch ·) frame still
  · exact halt_engineOk (nomatch ·) frame still
  · have halted : EngineOk (halt .sensorStall s) := halt_engineOk (nomatch ·) frame still
    exact halt_engineOk (nomatch ·) ((engineOk_iff _).mp halted).1 fun _ => halted

/-- A frame closes in an engine that is STOPPING, and its stop ends. -/
theorem closeFrame_stopped (c : FrameContext) (outcome : FrameOutcome) {s t : State} (ok : StateOk s)
    (stopping : s.engine.state = .stopping) (cleared : Cleared t) (engine : t.engine = s.engine)
    (next : t.sequencer.next = none)
    (last : reachedThree t.sequencer.stallFailures
      (closeFrame c outcome t).sequencer.stallFailures = false) : EngineOk (closeFrame c outcome t) := by
  have after := closeFrame_cleared c outcome cleared
  rcases closeFrame_cases c outcome t with
    ⟨_, _, _, _, _, _, stall, closed, third⟩ | ⟨-, _, _, _, _, _, _, stall, closed, -⟩
  · rw [closed] at last
    rw [third (by rw [engine, stopping])] at last
    cases last
  · rw [closed] at after ⊢
    refine engineOk_rest after rfl next rfl rfl (.inl rfl) ?_
    have none := ok.fault
    simpa [stopping, engine] using none

/-! ### The slot start -/

theorem startNext_engineOk {s : State} (ok : EngineOk s) (running : s.engine.state = .running)
    (empty : s.sequencer.present = none) : EngineOk (startNext s) := by
  obtain ⟨frame, engine⟩ := (engineOk_iff s).mp ok
  have cleared := frame.cleared empty
  obtain ⟨present, exposure, pass, output, failures⟩ := cleared
  unfold startNext
  dsimp only
  split
  · rw [engineOk_iff]
    exact ⟨frame.congr rfl rfl rfl rfl rfl rfl, engine.running running rfl rfl rfl rfl⟩
  · split
    · rw [engineOk_iff]
      refine ⟨⟨fun _ => ⟨_, rfl, rfl⟩, ?_, ?_, failures⟩, engine.running running rfl rfl rfl rfl⟩
      · simp [triggerFrame, pass]
      · simp [triggerFrame, pass, output]
    · split
      · exact closeFrame_running _ _ engine running ⟨present, exposure, pass, output, failures⟩ rfl rfl
      · refine closeFrame_running _ _ engine running ⟨?_, ?_, ?_, ?_, ?_⟩ ?_ ?_ <;> rw [endSetup_touches]
        · exact present
        · exact exposure
        · exact pass
        · exact output
        · exact failures

theorem reachedThree_self (n : Nat) : reachedThree n n = false := by
  unfold reachedThree
  by_cases two : n = 2 <;> simp [two]

theorem slotStart_engineOk {s : State} (ok : EngineOk s) (due : s.sequencer.slotTimer = some 0) :
    EngineOk (slotStart s) := by
  obtain ⟨frame, engine⟩ := (engineOk_iff s).mp ok
  have slots : runs s := engine.timer.mp (by rw [due]; rfl)
  generalize on : { s with sequencer.slotTimer := some s.engine.slotPeriod, sequencer.setupDone := false } = s0
  have frame0 : FrameOk s0 := by
    subst on
    exact frame.congr rfl rfl rfl rfl rfl rfl
  have cleared := dropPresent_cleared frame0 .stall
  unfold slotStart
  dsimp only
  rw [on]
  rcases slots with running | stopping
  · obtain ⟨run, timer⟩ := dropPresent_same .stall (s := s0) (by rw [← on]; dsimp only; rw [running]; exact (nomatch ·))
    have dropped : EngineOk (dropPresent .stall s0) := by
      rw [engineOk_iff]
      refine ⟨cleared.frameOk, engine.running running ?_ ?_ ?_ ?_⟩
      · rw [timer, due, ← on]
        rfl
      all_goals rw [run, ← on]
    have started := startNext_engineOk dropped (by rw [run, ← on]; exact running) cleared.present
    rw [if_pos running]
    split
    · exact handFaults_engineOk ‹_› ((engineOk_iff _).mp started).1 fun _ => started
    · split
      · exact setupPointIfDue_engineOk started
      · exact started
  · have notRunning : s.engine.state ≠ .running := by rw [stopping]; exact (nomatch ·)
    rw [if_neg notRunning, reachedThree_self, Bool.or_false]
    obtain ⟨empty, inFlight⟩ := engine.stopping stopping
    obtain ⟨f, placed⟩ := Option.isSome_iff_exists.mp inFlight
    have placed0 : s0.sequencer.present = some f := by rw [← on]; exact placed
    rw [dropPresent_some placed0] at cleared ⊢
    obtain ⟨_, _, dropped⟩ := dropping_eq f s0
    have engine0 : (dropping f s0).engine = s.engine := by rw [dropped, ← on]
    have counter0 : (dropping f s0).sequencer.stallFailures = s.sequencer.stallFailures := by
      rw [dropped, ← on]
    rcases fault : reachedThree s.sequencer.stallFailures
      (closeFrame f.context (.dropped .stall) (dropping f s0)).sequencer.stallFailures with _ | _
    · have ended := closeFrame_stopped f.context (.dropped .stall) engine stopping
        (dropping_cleared frame0 placed0) engine0 (by rw [dropped, ← on]; exact empty)
        (by rw [counter0]; exact fault)
      rw [if_neg Bool.false_ne_true]
      split
      · exact setupPointIfDue_engineOk ended
      · exact ended
    · rw [if_pos rfl]
      refine handFaults_engineOk rfl cleared.frameOk fun still => ?_
      rcases closeFrame_cases f.context (.dropped .stall) (dropping f s0) with
        ⟨_, _, _, _, _, _, _, closed, -⟩ | ⟨-, _, _, _, _, _, _, _, closed, notThird⟩
      · refine absurd (.inr ?_) still
        rw [closed, engine0]
        exact stopping
      · rw [closed, ← counter0] at fault
        rw [notThird] at fault
        cases fault

end Sys2Proof.Proofs

/-! Every step keeps the engine in order, and the claim with its host (O55). -/

namespace Sys2Proof.Proofs

open Sys2Proof.Machine Sys2Proof.Safety

/-! ### START and STOP -/

theorem startEngine_engineOk {s : State} (ok : EngineOk s) (rests : s.engine.state.isStill = true) :
    EngineOk (startEngine s) := by
  obtain ⟨frame, engine⟩ := (engineOk_iff s).mp ok
  have still : ¬ runs s := by
    unfold runs
    rintro (running | stopping)
    · rw [running] at rests; cases rests
    · rw [stopping] at rests; cases rests
  have waits : s.engine.stopWaiting = none := by
    have waits := engine.stopWaits
    rw [← Option.not_isSome_iff_eq_none, waits]
    exact fun stopping => still (.inr stopping)
  obtain ⟨-, empty, -⟩ := engine.still still
  obtain ⟨-, exposure, pass, output, failures⟩ := frame.cleared empty
  unfold startEngine takeUpRun
  dsimp only
  rw [postToAll_eq, forgetShadow_touches]
  generalize taken : setupPoint _ = t
  have touches := taken ▸ setupPoint_touches _
  rw [engineOk_iff]
  constructor
  · refine Cleared.frameOk ⟨?_, ?_, ?_, ?_, ?_⟩ <;> rw [touches]
    · exact exposure
    · exact pass
    · exact output
    · exact ⟨Nat.zero_le _, Nat.zero_le _⟩
  · have running : t.engine.state = .running := by rw [touches]
    refine ⟨iff_of_true rfl (.inl running), fun still => absurd (.inl running) still, fun stopping => ?_, ?_, ?_⟩
    · rw [show t.engine.state = _ from running] at stopping
      cases stopping
    all_goals rw [touches]
    · simp [waits]
    · simp

theorem stopped_engineOk {s : State} (ok : EngineOk s) (running : s.engine.state = .running)
    (empty : s.sequencer.present = none) :
    EngineOk (postToAll { kind := .engineStopped, subject := 0, detail := 0 }
      (stopTimers { abandonNext s with engine.state := .stopped })) := by
  obtain ⟨frame, engine⟩ := (engineOk_iff s).mp ok
  obtain ⟨present, -, pass, output, failures⟩ := frame.cleared empty
  have waits : s.engine.stopWaiting = none := by
    have waits := engine.stopWaits
    rw [← Option.not_isSome_iff_eq_none, waits, running]
    exact (nomatch ·)
  have fault := engine.fault
  have gone := abandonNext_empty s
  have touches := abandonNext_touches s
  generalize abandonNext s = a at gone touches ⊢
  rw [postToAll_eq]
  refine engineOk_rest ⟨?_, rfl, ?_, ?_, ?_⟩ rfl gone rfl ?_ (.inl rfl) ?_ <;> rw [touches]
  · exact present
  · exact pass
  · exact output
  · exact failures
  · exact waits
  · simpa [running, stopTimers] using fault

theorem stopWaits_engineOk {s : State} (ok : EngineOk s) (running : s.engine.state = .running)
    {f : PresentFrame} (placed : s.sequencer.present = some f) (h : HostId) (serial : Nat) :
    EngineOk { abandonNext s with engine.state := .stopping, engine.stopWaiting := some (h, serial) } := by
  obtain ⟨frame, engine⟩ := (engineOk_iff s).mp ok
  have fault := engine.fault
  have timer := engine.timer
  have gone := abandonNext_empty s
  have touches := abandonNext_touches s
  have kept : FrameOk (abandonNext s) := frame.setup (touchesSetup_of_link touches)
  generalize abandonNext s = a at gone touches kept ⊢
  rw [engineOk_iff]
  refine ⟨kept.congr rfl rfl rfl rfl rfl rfl, ⟨?_, fun still => absurd (.inr rfl) still, fun _ => ⟨gone, ?_⟩,
    by simp, ?_⟩⟩ <;> rw [touches]
  · simpa [runs, running] using timer
  · simp [placed]
  · simpa [running] using fault

/-! ### The happenings -/

theorem frameStarted_engineOk {s : State} (ok : EngineOk s) {f : PresentFrame}
    (placed : s.sequencer.present = some f) : EngineOk (frameStarted f s) := by
  obtain ⟨frame, engine⟩ := (engineOk_iff s).mp ok
  refine setupPointIfDue_engineOk ((engineOk_iff _).mpr ⟨⟨?_, ?_, ?_, frame.failures⟩, ?_⟩)
  · simp [takeUpFrame]
  · simp [takeUpFrame]
  · simp [takeUpFrame]
  · exact engine.congr rfl id (by rw [placed]; rfl) rfl rfl rfl rfl

theorem frameStartIgnored_engineOk {s : State} (ok : EngineOk s) : EngineOk (frameStartIgnored s) := by
  obtain ⟨frame, engine⟩ := (engineOk_iff s).mp ok
  unfold frameStartIgnored
  split
  · rename_i taking
    have pass := frame.pass
    have output := frame.output
    rw [taking] at pass output
    rw [engineOk_iff]
    refine ⟨⟨frame.exposure, ?_, ?_, frame.failures⟩, engine.congr rfl id rfl rfl rfl rfl rfl⟩
    · simpa using pass
    · simpa using output
  · exact ok

theorem line_engineOk {s : State} (ok : EngineOk s) {a : Accumulators} {header : List Byte} {cut : Bool}
    (taking : s.framePass = .taking a header cut) (b : Accumulators) (cut' : Bool) (pixels : List Pixel)
    (index : Nat) :
    EngineOk
      { s with framePass := .taking b header cut', videoOut := { s.videoOut with line := pixels },
               freeIndex := index } := by
  obtain ⟨frame, engine⟩ := (engineOk_iff s).mp ok
  have pass := frame.pass
  have output := frame.output
  rw [taking] at pass output
  rw [engineOk_iff]
  refine ⟨⟨frame.exposure, ?_, ?_, frame.failures⟩, engine.congr rfl id rfl rfl rfl rfl rfl⟩
  · simpa using pass
  · simpa using output

theorem exposureExpiry_engineOk {s : State} (ok : EngineOk s) :
    EngineOk (setupPointIfDue { s with sequencer.exposureTimer := none }) := by
  obtain ⟨frame, engine⟩ := (engineOk_iff s).mp ok
  refine setupPointIfDue_engineOk ((engineOk_iff _).mpr ⟨⟨?_, frame.pass, frame.output, frame.failures⟩,
    engine.congr rfl id rfl rfl rfl rfl rfl⟩)
  exact fun timer => nomatch timer

/-- A normal close sets the failure counters to 0. -/
theorem closeFrame_normal_stallFailures (c : FrameContext) (s : State) :
    (closeFrame c .normal s).sequencer.stallFailures = 0 := by
  rw [closeFrame_eq]
  split
  · obtain ⟨_, ended⟩ := endOfStop_eq (closing c .normal s)
    rw [ended]
    rfl
  · rfl

theorem frameEnded_engineOk {s : State} (ok : EngineOk s) {f : PresentFrame}
    (placed : s.sequencer.present = some f) : EngineOk (frameEnded f s) := by
  obtain ⟨frame, engine⟩ := (engineOk_iff s).mp ok
  have cleared : Cleared (releasePass { s with sequencer.present := none, sequencer.exposureTimer := none }) :=
    ⟨rfl, rfl, rfl, rfl, frame.failures⟩
  have slots : runs s := by
    by_contra still
    rw [(engine.still still).2.1] at placed
    cases placed
  unfold frameEnded
  generalize { f.context with
    statistics := _, sizeMismatch := _ } = c
  rcases slots with running | stopping
  · exact closeFrame_running _ _ engine running cleared rfl rfl
  · refine closeFrame_stopped _ _ engine stopping cleared rfl (engine.stopping stopping).1 ?_
    rw [closeFrame_normal_stallFailures]
    unfold reachedThree
    simp

/-! ### The commands -/

theorem discardRecord_engineOk {s : State} (ok : EngineOk s) (h : HostId) (r : Record) :
    EngineOk (discardRecord h s r) := by
  unfold discardRecord
  exact engineOk_tables (s := s.setMailbox h _) (engineOk_same ok rfl rfl rfl rfl rfl rfl)
    (missReport_touches ..)

theorem engineOk_effect (h : HostId) (cmd : Handed) (s t : State) (effect : Effect h cmd s t)
    (ok : EngineOk s) : EngineOk t := by
  cases effect with
  | submit => exact engineOk_tables ok (admitRequest_touches ..)
  | cancel => exact engineOk_tables ok (cancelled_touches ..)
  | resume => exact engineOk_tables ok ((updateRequest_touches ..).trans (trigger_touches _))
  | rebuild => exact engineOk_tables ok (trigger_touches s)
  | ackRecord =>
    exact engineOk_tables (s := s.setMailbox h _) (engineOk_same ok rfl rfl rfl rfl rfl rfl)
      (acknowledgementReport_touches ..)
  | setHold _ limit =>
    exact List.foldlRecOn _ _ (engineOk_same (s := s) ok rfl rfl rfl rfl rfl rfl)
      fun t ok r _ => discardRecord_engineOk ok h r
  | setConfig _ item => cases item <;> exact engineOk_same ok rfl rfl rfl rfl rfl rfl
  | start still => exact startEngine_engineOk ok still
  | stop running empty => exact stopped_engineOk ok running empty
  | setMap =>
    unfold replaceEntry
    split
    · exact ok
    · exact engineOk_same ok rfl rfl rfl rfl rfl rfl
  | _ => exact engineOk_same ok rfl rfl rfl rfl rfl rfl

theorem handDirect_engineOk {s : State} (ok : EngineOk s) (c : DirectCommand) :
    EngineOk (handDirect c (c.op.forget s)) :=
  engineOk_link ok (direct_touches c s)
    ((emptyStays_of_sequencer (forget_sequencer c.op s)).trans (handDirect_emptyStays c _))

theorem engineOk_reset : EngineOk State.reset :=
  engineOk_rest ⟨rfl, rfl, rfl, rfl, Nat.zero_le _, Nat.zero_le _⟩ rfl rfl rfl rfl (.inl rfl)
    (iff_of_false (fun fault => fault rfl) (nomatch ·))

theorem tick_engineOk {s : State} (ok : EngineOk s) : EngineOk (tick s) := by
  obtain ⟨frame, engine⟩ := (engineOk_iff s).mp ok
  rw [engineOk_iff]
  refine ⟨⟨?_, frame.pass, frame.output, frame.failures⟩, engine.congr ?_ id rfl rfl rfl rfl rfl⟩
  · simpa [tick] using frame.exposure
  · simp [tick]

theorem engineOk_happening (s t : State) (happened : Happening s t) (ok : EngineOk s) : EngineOk t := by
  cases happened with
  | powerOn => exact engineOk_same (s := State.reset) engineOk_reset rfl rfl rfl rfl rfl rfl
  | transfer h touches =>
    refine engineOk_same ok ?_ ?_ ?_ ?_ ?_ ?_ <;> rw [touches] <;> rfl
  | takeFrame h frame =>
    rcases checkFrame_cases h _ frame _ with ⟨r, same⟩ | ⟨c, args, -, same⟩
    · rw [same]
      exact engineOk_same (s := s) ok rfl rfl rfl rfl rfl rfl
    · rw [same, handOn_eq]
      exact engineOk_same (s := s) ok rfl rfl rfl rfl rfl rfl
  | answer h =>
    rw [deliverAnswer_eq]
    exact engineOk_same (s := s) ok rfl rfl rfl rfl rfl rfl
  | detachRequests h =>
    exact engineOk_tables (s := stepped s h _ _) (engineOk_same ok rfl rfl rfl rfl rfl rfl)
      (freeRequestsOf_touches ..)
  | detachProfiles h =>
    exact engineOk_tables (s := stepped s h _ _) (engineOk_same ok rfl rfl rfl rfl rfl rfl)
      (detachProfiles_touches ..)
  | detachDirect h =>
    refine engineOk_link (s := stepped s h _ _) (engineOk_same ok rfl rfl rfl rfl rfl rfl)
      (detachDirect_touches ..) ?_
    exact (emptyStays_of_sequencer (dropWaitingDirect_sequencer h _)).trans (endDirect_emptyStays h _)
  | detachClaim h =>
    rw [freeClaim_eq]
    exact engineOk_same (s := s) ok rfl rfl rfl rfl rfl rfl
  | claimExpiry =>
    exact engineOk_tables (s := { s with engine.claim := none }) (engineOk_same ok rfl rfl rfl rfl rfl rfl)
      (postNotice_touches ..)
  | holdTimeout h => exact discardRecord_engineOk ok h _
  | buildReady => exact engineOk_tables ok (buildReady_touches ..)
  | slotStart due => exact slotStart_engineOk ok due
  | exposureExpiry => exact exposureExpiry_engineOk ok
  | frameStart here => exact frameStarted_engineOk ok here
  | frameStartIgnored => exact frameStartIgnored_engineOk ok
  | line taking => exact line_engineOk ok taking ..
  | frameEnd here => exact frameEnded_engineOk ok here
  | writeAcknowledged =>
    exact engineOk_link ok (writeAcknowledged_touches ..) (writeAcknowledged_emptyStays _ _ _ _)
  | writeRefused => exact engineOk_link ok (writeRefused_touches ..) (writeRefused_emptyStays _ _ _)
  | @drainEnd w _ answer =>
    exact engineOk_link ok (drainEnd_touches ..)
      ((emptyStays_of_sequencer (recordDrain_sequencer w answer s)).trans (linkIdle_emptyStays _))
  | @directDone w _ r =>
    refine engineOk_link ?_ (linkIdle_touches _) (linkIdle_emptyStays _)
    rw [deliverAnswer_eq]
    exact engineOk_same (s := s) ok rfl rfl rfl rfl rfl rfl
  | _ => exact engineOk_same (s := s) ok rfl rfl rfl rfl rfl rfl

/-- Every step keeps the engine, its timers, places and Frame Pass in agreement. -/
theorem step_keeps_engineOk {s t : State} (falls : step s = .next t) (ok : EngineOk s) : EngineOk t := by
  refine keeps_of_cases (fun s q ok => engineOk_same ok rfl rfl rfl rfl rfl rfl) (fun s ok => tick_engineOk ok)
    ?_ engineOk_happening falls ok
  refine keeps_took (fun s h c ok => engineOk_same ok rfl rfl rfl rfl rfl rfl)
    (fun s h cmd status results ok => engineOk_same ok rfl rfl rfl rfl rfl rfl) engineOk_effect
    (fun s h serial ok => engineOk_same ok rfl rfl rfl rfl rfl rfl)
    (fun s h serial f running placed ok => stopWaits_engineOk ok running placed h serial)
    fun s c ok => handDirect_engineOk ok c

/-! ### The claim and its host (R161) -/

/-- The host is attached, or its detach is under way. -/
def Present (s : State) (h : HostId) : Prop :=
  (s.port h).attached = true ∨ (s.port h).detaching.isSome = true

/-- The claim is free, or where it was before, and every host that was there is still there. -/
theorem claimOk_of {s t : State} (ok : ClaimOk s)
    (claim : ∀ c, t.engine.claim = some c → ∃ b, s.engine.claim = some b ∧ b.holder = c.holder)
    (ports : ∀ h, Present s h → Present t h) : ClaimOk t := fun c held => by
  obtain ⟨b, before, same⟩ := claim c held
  exact same ▸ ports _ (ok b before)

theorem claimOk_of_same {s t : State} (ok : ClaimOk s) (claim : t.engine.claim = s.engine.claim)
    (ports : ∀ h, Present s h → Present t h) : ClaimOk t :=
  claimOk_of ok (fun c held => ⟨c, claim ▸ held, rfl⟩) ports

theorem present_of_ports {s t : State} (same : t.ports = s.ports) (h : HostId) (here : Present s h) :
    Present t h := by
  unfold Present State.port at *
  rwa [same]

theorem present_of_posts {s t : State} (posts : Posts s t) (h : HostId) (here : Present s h) : Present t h := by
  obtain ⟨taken, port⟩ := posts.port h
  unfold Present
  rw [port]
  exact here

theorem present_setPort {s : State} (h : HostId) {p : Port}
    (own : Present s h → p.attached = true ∨ p.detaching.isSome = true) (g : HostId) (here : Present s g) :
    Present (s.setPort h p) g := by
  unfold Present
  rw [State.setPort_port]
  split
  · rename_i same
    exact own (same ▸ here)
  · exact here

theorem claimOk_posts {s t : State} (ok : ClaimOk s) (posts : Posts s t) (claim : t.engine.claim = s.engine.claim) :
    ClaimOk t := claimOk_of_same ok claim (present_of_posts posts)

theorem claimOk_tables {s t : State} (ok : ClaimOk s) (posts : Posts s t) (touches : TouchesTables s t) :
    ClaimOk t := claimOk_posts ok posts (by rw [touches])

theorem claimOk_setPort {s : State} (ok : ClaimOk s) (h : HostId) {p : Port}
    (own : Present s h → p.attached = true ∨ p.detaching.isSome = true) : ClaimOk (s.setPort h p) :=
  claimOk_of_same ok rfl (present_setPort h own)

theorem claimOk_ports {s t : State} (ok : ClaimOk s) (ports : t.ports = s.ports)
    (claim : t.engine.claim = s.engine.claim) : ClaimOk t :=
  claimOk_of_same ok claim (present_of_ports ports)

theorem claimOk_link {s t : State} (ok : ClaimOk s) (touches : TouchesLink s t) : ClaimOk t :=
  claimOk_ports ok (by rw [touches]) (by rw [touches])

theorem claimOk_rule : FrameRule ClaimOk where
  apart ok apart := claimOk_ports ok (by rw [apart]) (by rw [apart])
  link ok touches _ := claimOk_link ok touches
  post n s ok := claimOk_tables ok (postToAll_posts n s) (postToAll_touches n s)
  compose c outcome s h _ ok :=
    claimOk_posts ok (composeRecord_posts c outcome s h) (by rw [composeRecord_touches])
  judge c outcome s ok := claimOk_tables ok (judgeFrame_posts c outcome s) (judgeFrame_touches c outcome s)
  occasions c outcome s ok :=
    claimOk_tables ok (countOccasions_posts c outcome s) (countOccasions_touches c outcome s)
  swap sh s _ ok := claimOk_tables ok (swap_posts sh s) (swap_touches sh s)
  answerStop s ok := by
    rcases answerStop_cases s with same | ⟨h, buffer, answered⟩
    · rwa [same]
    · rw [answered]
      exact claimOk_setPort (s := { s with engine.stopWaiting := none }) (claimOk_ports ok rfl rfl) h id

theorem giveClaim_claimOk {s : State} (h : HostId) (here : Present s h) : ClaimOk (giveClaim h s) := by
  intro c held
  cases held
  exact here

theorem claimOk_effect (h : HostId) (cmd : Handed) (s t : State) (effect : Effect h cmd s t)
    (ok : ClaimOk s) : ClaimOk t := by
  cases effect with
  | nothing => exact ok
  | attach =>
    exact claimOk_ports (s := s.setPort h _) (claimOk_setPort ok h fun _ => .inl rfl) rfl rfl
  | getNotice => exact claimOk_setPort ok h id
  | setAttention => exact claimOk_setPort ok h id
  | submit => exact claimOk_tables ok (admitRequest_posts ..) (admitRequest_touches ..)
  | cancel => exact claimOk_tables ok (cancelled_posts ..) (cancelled_touches ..)
  | resume =>
    exact claimOk_tables ok ((updateRequest_posts ..).trans (trigger_posts _))
      ((updateRequest_touches ..).trans (trigger_touches _))
  | createProfile => exact claimOk_ports ok rfl rfl
  | edit => exact claimOk_ports ok rfl rfl
  | rebuild => exact claimOk_tables ok (trigger_posts s) (trigger_touches s)
  | ackRecord =>
    exact claimOk_tables (s := s.setMailbox h _) (claimOk_ports ok rfl rfl)
      (acknowledgementReport_posts ..) (acknowledgementReport_touches ..)
  | setHold _ limit =>
    refine List.foldlRecOn _ _ (claimOk_ports (s := s) ok rfl rfl) fun t ok r _ => ?_
    exact claimOk_posts ok (discardRecord_posts h t r) (by rw [discardRecord_touches])
  | claim attached => exact giveClaim_claimOk h (.inl attached)
  | release => exact fun c held => nomatch held
  | setConfig attached item =>
    cases item with
    | claimExpiry v => exact giveClaim_claimOk (s := { s with engine.claimExpiry := v }) h (.inl attached)
    | _ => exact claimOk_ports ok rfl rfl
  | setQuota => exact claimOk_ports ok rfl rfl
  | start => exact claimOk_rule.startEngine ok
  | stop => exact claimOk_rule.stopped ok
  | setMap => exact claimOk_link ok (replaceEntry_touches ..)

theorem claimOk_stepped {s : State} (ok : ClaimOk s) (h : HostId) (d : Detach) (next : DetachStep) :
    ClaimOk (Proofs.stepped s h d next) := claimOk_setPort ok h fun _ => .inr rfl

theorem claimOk_restartClaim {s : State} (ok : ClaimOk s) (h : HostId) : ClaimOk (restartClaim h s) := by
  unfold restartClaim
  split
  · rename_i holds
    intro c held
    cases held
    cases claim : s.engine.claim with
    | none => rw [State.holdsClaim, claim] at holds; cases holds
    | some b =>
      obtain rfl : b.holder = h := by simpa [State.holdsClaim, claim] using holds
      exact ok b claim
  · exact ok

/-- At the end of a detach the host's claim is free, and only that host goes (R163). -/
theorem claimOk_freeClaim {s : State} (ok : ClaimOk s) (h : HostId) (p : Port) :
    ClaimOk (freeClaim h (s.setPort h p)) := by
  unfold freeClaim
  split
  · exact fun c held => nomatch held
  · rename_i other
    intro c held
    have ne : c.holder ≠ h := fun same => by
      rw [State.holdsClaim, held] at other
      exact other (by simpa using same)
    rw [State.setPort_port, if_neg ne]
    exact ok c held

theorem claimOk_happening (s t : State) (happened : Happening s t) (ok : ClaimOk s) : ClaimOk t := by
  cases happened with
  | powerOn => exact fun c held => nomatch held
  | pulse h =>
    have pulsed : ClaimOk (s.setPort h (pulsed (s.port h))) := claimOk_setPort ok h id
    exact claimOk_setPort pulsed h fun _ => .inr rfl
  | pulseAgain h => exact claimOk_setPort ok h fun _ => .inr rfl
  | hrstRelease h => exact claimOk_setPort ok h id
  | transfer h touches =>
    rw [touches]
    exact claimOk_setPort ok h id
  | discard h => exact claimOk_setPort ok h id
  | takeFrame h frame =>
    have taken : ClaimOk (s.setPort h (taking (s.port h))) := claimOk_setPort ok h id
    rcases checkFrame_cases h (s.port h).nextSerial frame (s.setPort h (taking (s.port h))) with
      ⟨r, answered⟩ | ⟨c, args, -, handed⟩
    · rw [answered]
      exact claimOk_setPort taken h id
    · rw [handed]
      refine claimOk_restartClaim (claimOk_setPort taken h ?_) h
      exact id
  | responseTaken h =>
    refine claimOk_setPort ok h fun here => ?_
    unfold Port.responseTaken
    split <;> exact here
  | @answer h a rest =>
    have arrived : ClaimOk (s.setPort h { s.port h with answers := rest }) := claimOk_setPort ok h id
    rw [deliverAnswer_eq]
    exact claimOk_setPort arrived h id
  | detachRequests h =>
    exact claimOk_tables (claimOk_stepped ok h _ _) (freeRequestsOf_posts ..) (freeRequestsOf_touches ..)
  | detachProfiles h =>
    exact claimOk_tables (claimOk_stepped ok h _ _) (.foldl _ _ _ (detachProfile_posts h)) (detachProfiles_touches ..)
  | detachRecords h => exact claimOk_ports (claimOk_stepped ok h _ _) rfl rfl
  | detachDirect h => exact claimOk_link (claimOk_stepped ok h _ _) (detachDirect_touches ..)
  | detachClaim h => exact claimOk_freeClaim ok h _
  | claimExpiry =>
    exact claimOk_tables (s := { s with engine.claim := none }) (fun c held => nomatch held)
      (postNotice_posts ..) (postNotice_touches ..)
  | holdTimeout h => exact claimOk_posts ok (discardRecord_posts h s _) (by rw [discardRecord_touches])
  | buildReady => exact claimOk_tables ok (buildReady_posts ..) (buildReady_touches ..)
  | slotStart => exact claimOk_rule.slotStart ok
  | exposureExpiry => exact claimOk_rule.setupPointIfDue (claimOk_ports ok rfl rfl)
  | frameStart => exact claimOk_rule.frameStarted _ ok
  | frameStartIgnored => exact claimOk_rule.frameStartIgnored ok
  | frameEnd => exact claimOk_rule.frameEnded _ ok
  | writeAcknowledged => exact claimOk_link ok (writeAcknowledged_touches ..)
  | writeRefused => exact claimOk_link ok (writeRefused_touches ..)
  | drainEnd => exact claimOk_link ok (drainEnd_touches ..)
  | directDone =>
    refine claimOk_link ?_ (linkIdle_touches _)
    rw [deliverAnswer_eq]
    exact claimOk_setPort ok _ id
  | _ => exact claimOk_ports ok rfl rfl

theorem tick_claimOk {s : State} (ok : ClaimOk s) : ClaimOk (tick s) := by
  refine claimOk_of ok (fun c held => ?_) fun h here => ?_
  · obtain ⟨b, before, rfl⟩ := Option.map_eq_some_iff.mp held
    exact ⟨b, before, rfl⟩
  · unfold Present at *
    have port : (tick s).port h = (s.port h).tick := by cases h <;> rfl
    simpa [port, Port.tick] using here

/-- Every step keeps the claim with a host that is attached or whose detach is under way (R161). -/
theorem step_keeps_claimOk {s t : State} (falls : step s = .next t) (ok : ClaimOk s) : ClaimOk t := by
  refine keeps_of_cases (fun s q ok => ok) (fun s ok => tick_claimOk ok) ?_ claimOk_happening falls ok
  refine keeps_took (fun s h c ok => claimOk_setPort ok h id) (fun s h cmd status results ok => ?_)
    claimOk_effect (fun s h serial ok => claimOk_setPort ok h fun _ => .inr rfl)
    (fun s h serial f _ _ ok => claimOk_ports (claimOk_rule.abandonNext ok) rfl rfl)
    fun s c ok => claimOk_link ok (direct_touches c s)
  exact claimOk_setPort ok h id

/-- Settles O55: the engine goes by the state of its run at each close, halt, slot start, START and STOP, and the
claim by the ports. -/
theorem stepsKeepTheEngineInOrder : Obligations.StepsKeepTheEngineInOrder := fun _ _ falls =>
  ⟨step_keeps_engineOk falls, step_keeps_claimOk falls⟩

end Sys2Proof.Proofs

/-! A form of the tables: what each of its moves is, and that a form kept by each of them is kept by every report, by
the Frame Sequencer's work and by every step. -/

namespace Sys2Proof.Proofs

open Sys2Proof.Machine Sys2Proof.Safety

/-! ### States with the same tables -/

/-- `t` has the request table, the profiles, the Calendar and the quotas of `s`. -/
structure SameTables (s t : State) : Prop where
  requests : t.requests = s.requests
  profiles : t.profiles = s.profiles
  calendar : t.calendar = s.calendar
  quotas : t.engine.quotas = s.engine.quotas

namespace SameTables

theorem refl (s : State) : SameTables s s := ⟨rfl, rfl, rfl, rfl⟩

theorem trans {s t u : State} (a : SameTables s t) (b : SameTables t u) : SameTables s u :=
  ⟨b.requests.trans a.requests, b.profiles.trans a.profiles, b.calendar.trans a.calendar,
    b.quotas.trans a.quotas⟩

theorem symm {s t : State} (a : SameTables s t) : SameTables t s :=
  ⟨a.requests.symm, a.profiles.symm, a.calendar.symm, a.quotas.symm⟩

theorem of_link {s t : State} (touches : TouchesLink s t) : SameTables s t := by
  constructor <;> rw [touches]

theorem profile {s t : State} (same : SameTables s t) (id : Fin 16) : t.profile id = s.profile id := by
  rw [State.profile, same.profiles]
  rfl

theorem request {s t : State} (same : SameTables s t) (h : HostId) (tag : Nat) :
    t.request h tag = s.request h tag := by
  rw [State.request, same.requests]
  rfl

theorem hasActiveUser {s t : State} (same : SameTables s t) (id : Fin 16) :
    t.hasActiveUser id = s.hasActiveUser id := by
  rw [State.hasActiveUser, same.requests]
  rfl

theorem setTable {s t : State} (same : SameTables s t) (table : List Request) :
    SameTables (s.setTable table) (t.setTable table) :=
  ⟨by rw [State.setTable, same.requests]; rfl, same.profiles, same.calendar, same.quotas⟩

theorem setProfile {s t : State} (same : SameTables s t) (id : Fin 16) (p : Option Profile) :
    SameTables (s.setProfile id p) (t.setProfile id p) :=
  ⟨same.requests, by rw [State.setProfile, same.profiles]; rfl, same.calendar, same.quotas⟩

theorem postNotice (h : HostId) (n : Notice) (s : State) : SameTables s (postNotice h n s) := by
  rw [postNotice_eq]
  exact ⟨rfl, rfl, rfl, rfl⟩

theorem postToAll (n : Notice) (s : State) : SameTables s (postToAll n s) := by
  rw [postToAll_eq]
  exact ⟨rfl, rfl, rfl, rfl⟩

theorem answerStop (s : State) : SameTables s (answerStop s) := by
  obtain ⟨_, answered⟩ := answerStop_eq s
  rw [answered]
  exact ⟨rfl, rfl, rfl, rfl⟩

/-- A fold of steps that leave the tables as they are. -/
theorem foldl {α : Type} (f : State → α → State) (l : List α) (s : State)
    (each : ∀ s a, SameTables s (f s a)) : SameTables s (l.foldl f s) :=
  List.foldlRecOn l f (refl s) fun t same a _ => same.trans (each t a)

/-- A tune goes on, or, without an ACTIVE request, ends in MANUAL. -/
theorem abortTune_cases (id : Fin 16) (s : State) :
    (SameTables s (abortTune id s) ∧ ∀ p loop, s.profile id = some p → p.mode = .tuning loop →
        s.hasActiveUser id = true) ∨
      ∃ p loop, s.profile id = some p ∧ p.mode = .tuning loop ∧ s.hasActiveUser id = false ∧
        SameTables (s.setProfile id (some { p with mode := .manual })) (abortTune id s) := by
  unfold Machine.abortTune
  split
  · rename_i absent
    exact .inl ⟨refl s, fun p loop held => by rw [absent] at held; cases held⟩
  · rename_i p held
    split
    · rename_i loop tuning
      split
      · exact .inl ⟨refl s, fun _ _ _ _ => ‹_›⟩
      · rename_i unused
        refine .inr ⟨p, loop, held, tuning, by simpa using unused, ?_⟩
        split
        · exact postNotice ..
        · exact refl _
    · rename_i other
      refine .inl ⟨refl s, fun q loop held' tuning => ?_⟩
      rw [held] at held'
      cases held'
      exact absurd tuning (other loop)

/-! The operations of the tables do not look at anything else. -/

theorem lowerReference {s t : State} (same : SameTables s t) (id : Fin 16) :
    SameTables (lowerReference id s) (lowerReference id t) := by
  cases held : s.profile id with
  | none => simpa [Machine.lowerReference, same.profile, held] using same
  | some p =>
    rw [lowerReference_eq held, lowerReference_eq ((same.profile id).trans held)]
    exact same.setProfile id _

theorem clearEntry {s t : State} (same : SameTables s t) (r : Request) :
    SameTables (clearEntry r s) (clearEntry r t) := by
  unfold Machine.clearEntry
  rw [same.requests]
  exact (same.setTable _).lowerReference _

theorem abortTune {s t : State} (same : SameTables s t) (id : Fin 16) :
    SameTables (abortTune id s) (abortTune id t) := by
  rcases abortTune_cases id s with ⟨stays, kept⟩ | ⟨p, loop, held, tuning, unused, aborted⟩ <;>
    rcases abortTune_cases id t with ⟨stays', goes⟩ | ⟨q, loop', held', tuning', unused', aborted'⟩
  · exact (stays.symm.trans same).trans stays'
  · rw [same.profile] at held'
    rw [same.hasActiveUser] at unused'
    rw [kept q loop' held' tuning'] at unused'
    cases unused'
  · rw [← same.profile] at held
    rw [← same.hasActiveUser, goes p loop held tuning] at unused
    cases unused
  · rw [same.profile, held] at held'
    cases held'
    exact (aborted.symm.trans (same.setProfile id _)).trans aborted'

theorem tellLeft {s t : State} (same : SameTables s t) (r : Request) :
    SameTables (tellLeft r s) (tellLeft r t) := by
  unfold Machine.tellLeft
  split
  · exact same.abortTune _
  · exact same

theorem leaveCalendar {s t : State} (same : SameTables s t) (r : Request) :
    SameTables (leaveCalendar r s) (leaveCalendar r t) := by
  rw [leaveCalendar_eq, leaveCalendar_eq, same.calendar]
  exact ⟨same.requests, same.profiles, rfl, same.quotas⟩

end SameTables

/-! ### Live requests by name -/

theorem request_named {s : State} {h : HostId} {tag : Nat} {r : Request} (found : s.request h tag = some r) :
    r.owner = h ∧ r.tag = tag := by
  have named := List.find?_some found
  simpa [Request.named] using named

theorem request_mem {s : State} {h : HostId} {tag : Nat} {r : Request} (found : s.request h tag = some r) :
    r ∈ s.requests.table := List.mem_of_find?_eq_some found

theorem request_self {s : State} {h : HostId} {tag : Nat} {r : Request} (found : s.request h tag = some r) :
    s.request r.owner r.tag = some r := by
  obtain ⟨owner, name⟩ := request_named found
  rw [owner, name, found]

theorem named_self (r : Request) : r.named r.owner r.tag = true := by simp [Request.named]

/-- A request changed under its name is found again. -/
theorem request_updateRequest {s : State} {h : HostId} {tag : Nat} {f : Request → Request} {r : Request}
    (found : s.request h tag = some r)
    (kept : ∀ q, q.named h tag = true → (f q).named h tag = true) :
    (s.updateRequest h tag f).request h tag = some (f r) := by
  have keeps : ((fun q => q.named h tag) ∘ fun q => if q.named h tag = true then f q else q) =
      fun q => q.named h tag := by
    funext q
    by_cases named : q.named h tag = true
    · simp [named, kept q named]
    · simp [named]
  have named := List.find?_some found
  unfold State.request at found ⊢
  rw [State.updateRequest, State.setTable_table, List.find?_map]
  rw [show (Request.named h tag ∘ _) = _ from keeps]
  rw [show List.find? (fun q => q.named h tag) s.requests.table = some r from found, Option.map_some,
    if_pos named]

/-! ### A form that the moves of the tables keep -/

/-- The moves of the tables that a form is to be kept by: those of the reports, of a close, of leaving requests
and of a swap. -/
structure TableRule (P : State → Prop) : Prop where
  same : ∀ {s t}, P s → SameTables s t → P t
  acknowledge : ∀ s h tag, P s → P (s.updateRequest h tag fun q => { q with misses := 0 })
  charge : ∀ s h tag r, s.request h tag = some r → P s →
    P (s.updateRequest h tag fun _ => { r with misses := saturatingSucc 255 r.misses })
  suspend : ∀ s r, s.request r.owner r.tag = some r → P s → P (suspend r s)
  count : ∀ s h tag r count done, s.request h tag = some r → r.kind = .burst count done →
    done + 1 ≠ count → P s →
    P (s.updateRequest h tag fun q => { q with kind := .burst count (done + 1) })
  leave : ∀ s r, s.request r.owner r.tag = some r → P s → P (tellLeft r (freeEntry r s))
  judged : ∀ s id p e g m, s.profile id = some p →
    (∀ loop, m = .tuning loop → ∃ l, p.mode = .tuning l) → (p.mode = .manual → m = .manual) → P s →
    P (s.setProfile id (some { p with baseExposure := e, baseGain := g, mode := m }))
  trigger : ∀ s, P s → P (trigger s)
  swap : ∀ s sh, s.calendar.builder = .ready sh → P s → P (swap sh s)

namespace TableRule

variable {P : State → Prop} (rule : TableRule P) {s : State}
include rule

theorem rebuildIfWaiting (left : Bool) (holds : P s) : P (rebuildIfWaiting left s) := by
  unfold Machine.rebuildIfWaiting
  split
  · exact rule.trigger s holds
  · exact holds

omit rule in
/-- A fold that carries a flag beside a state. -/
theorem foldl_flag {α : Type} (f : State × Bool → α → State × Bool) (l : List α) {acc : State × Bool}
    (each : ∀ acc a, P acc.1 → P (f acc a).1) (holds : P acc.1) : P (l.foldl f acc).1 :=
  List.foldlRecOn (motive := fun acc : State × Bool => P acc.1) l f holds fun acc holds a _ => each acc a holds

theorem chargeMiss (h : HostId) (acc : State × Bool) (tag : Nat) (holds : P acc.1) :
    P (chargeMiss h acc tag).1 := by
  unfold Machine.chargeMiss
  split
  · exact holds
  · rename_i r found
    have charged := rule.charge _ h tag r found holds
    dsimp only
    split
    · have named := List.find?_some found
      exact rule.suspend _ _ (request_self (request_updateRequest
        (f := fun _ => { r with misses := saturatingSucc 255 r.misses }) found fun _ _ => named)) charged
    · exact charged

theorem missReport (h : HostId) (tags : List Nat) (holds : P s) : P (missReport h tags s) :=
  rule.rebuildIfWaiting _ (foldl_flag _ tags (fun acc tag => rule.chargeMiss h acc tag) holds)

theorem acknowledgementReport (h : HostId) (tags : List Nat) (holds : P s) :
    P (acknowledgementReport h tags s) :=
  List.foldlRecOn tags _ holds fun s holds tag _ => rule.acknowledge s h tag holds

theorem setMailbox (h : HostId) (m : Mailbox) (holds : P s) : P (s.setMailbox h m) :=
  rule.same holds ⟨rfl, rfl, rfl, rfl⟩

theorem setPort (h : HostId) (p : Port) (holds : P s) : P (s.setPort h p) :=
  rule.same holds ⟨rfl, rfl, rfl, rfl⟩

theorem offerRecord (h : HostId) (r : Record) (holds : P s) : P (offerRecord h r s) := by
  unfold Machine.offerRecord
  dsimp only
  split
  · exact rule.setMailbox h _ holds
  · exact rule.missReport h _ (rule.setMailbox h _ holds)

theorem composeRecord (c : FrameContext) (outcome : FrameOutcome) (h : HostId) (holds : P s) :
    P (composeRecord c outcome s h) := by
  unfold Machine.composeRecord
  split
  · exact holds
  · exact rule.offerRecord h _ holds

theorem discardRecord (h : HostId) (r : Record) (holds : P s) : P (discardRecord h s r) :=
  rule.missReport h _ (rule.setMailbox h _ holds)

theorem countOccasion (c : FrameContext) (acc : State × Bool) (pair : Subscriber) (holds : P acc.1) :
    P (countOccasion c acc pair).1 := by
  unfold Machine.countOccasion
  split
  · exact holds
  · rename_i r found
    split
    · exact holds
    · rename_i count done burst
      split
      · split
        · refine rule.same (rule.leave acc.1 r (request_self found) holds) ?_
          exact ((SameTables.postNotice ..).clearEntry r).tellLeft r
        · exact rule.count _ _ _ r count done found burst ‹_› holds
      · exact holds

theorem countOccasions (c : FrameContext) (outcome : FrameOutcome) (holds : P s) :
    P (countOccasions c outcome s) := by
  unfold Machine.countOccasions
  split
  · exact holds
  · exact rule.rebuildIfWaiting _ (foldl_flag _ _ (fun acc pair => rule.countOccasion c acc pair) holds)

theorem endTune {id : Fin 16} {p : Profile} (held : s.profile id = some p) (e g : Nat) (kind : NoticeKind)
    (frames : Nat) (holds : P s) :
    P (endTune id { p with baseExposure := e, baseGain := g } kind frames s) := by
  have ended := rule.judged s id p e g .manual held (fun _ same => nomatch same) (fun _ => rfl) holds
  unfold Machine.endTune
  dsimp only
  split
  · exact rule.same ended (.postNotice ..)
  · exact ended

theorem stepAuto {id : Fin 16} {p : Profile} (held : s.profile id = some p) (mean : Nat) (holds : P s) :
    P (stepAuto id p mean s) := by
  unfold Machine.stepAuto
  split
  · exact holds
  · exact rule.judged s id p _ _ p.mode held (fun l same => ⟨l, same⟩) (fun manual => manual) holds

theorem stepTuning {id : Fin 16} {p : Profile} {loop : Loop} (held : s.profile id = some p)
    (tuning : p.mode = .tuning loop) (mean : Nat) (holds : P s) : P (stepTuning id p loop mean s) := by
  have tuned : ∃ e g, (if onTarget p mean then p else adjusted (slotBudget s) p mean) =
      { p with baseExposure := e, baseGain := g } := by
    split
    · exact ⟨_, _, rfl⟩
    · exact ⟨_, _, rfl⟩
  obtain ⟨e, g, tuned⟩ := tuned
  unfold Machine.stepTuning
  dsimp only
  rw [tuned]
  split
  · exact rule.endTune held e g _ _ holds
  · split
    · exact rule.endTune held e g _ _ holds
    · exact rule.judged s id p e g _ held (fun _ _ => ⟨loop, tuning⟩)
        (fun manual => by rw [tuning] at manual; cases manual) holds

theorem judgeFrame (c : FrameContext) (outcome : FrameOutcome) (holds : P s) : P (judgeFrame c outcome s) := by
  unfold Machine.judgeFrame
  split
  · exact holds
  · rename_i p held
    split
    · dsimp only
      split
      · exact holds
      · exact rule.stepAuto held _ holds
      · exact rule.stepTuning held ‹_› _ holds
    · exact holds

theorem cancelled {r : Request} (found : s.request r.owner r.tag = some r) (holds : P s) :
    P (cancelled r s) :=
  rule.rebuildIfWaiting _ (rule.same (rule.leave s r found holds) ((SameTables.postNotice ..).tellLeft r))

theorem frameRule : FrameRule P where
  apart holds apart := by
    refine rule.same holds ?_
    constructor <;> rw [apart]
  link holds touches _ := rule.same holds (.of_link touches)
  post n s holds := rule.same holds (.postToAll n s)
  compose c outcome s h _ holds := rule.composeRecord c outcome h holds
  judge c outcome s holds := rule.judgeFrame c outcome holds
  occasions c outcome s holds := rule.countOccasions c outcome holds
  swap sh s ready holds := rule.swap s sh ready holds
  answerStop s holds := rule.same holds (.answerStop s)

end TableRule

end Sys2Proof.Proofs

/-! A form of the tables that each of their moves keeps is kept by every step. -/

namespace Sys2Proof.Proofs

open Sys2Proof.Machine Sys2Proof.Safety

/-- The further moves of the tables, those of the commands, of a detach and of time, that a form is to be kept by;
`G` is what is known of the state besides when a detach reaches the profiles. -/
structure TableSteps (G P : State → Prop) : Prop extends TableRule P where
  resume : ∀ s h tag r, s.request h tag = some r → r.state = .suspended → P s →
    P (s.updateRequest h r.tag fun q => { q with misses := 0, state := .pending })
  submitted : ∀ s h args a p, submitArgs args = some a → s.request h a.tag = none →
    s.profile a.profile = some p → p.usableBy h = true → p.steps.length ≤ a.period →
    (s.requestsOf h).length < (s.engine.quotas.get h).requests → s.requests.table.length < 32 →
    P s → P (admitRequest h a s)
  create : ∀ s h id width height, s.profilesOwned h < (s.engine.quotas.get h).profiles →
    s.profile id = none → P s → P (s.setProfile id (some (newProfile h width height)))
  edit : ∀ s h id p q, s.profile id = some p → p.life = .live h → Edit s h id p q → P s →
    P (s.setProfile id q)
  quota : ∀ s g q, quotaSum (s.engine.quotas.set g q) Quota.requests ≤ 32 →
    quotaSum (s.engine.quotas.set g q) Quota.profiles ≤ 16 → (s.requestsOf g).length ≤ q.requests →
    s.profilesOwned g ≤ q.profiles → P s → P { s with engine.quotas := s.engine.quotas.set g q }
  freed : ∀ s h, P s → P (freeRequestsOf h s)
  orphans : ∀ s h d, (s.port h).detaching = some d → d.next = .profiles → G s → P s →
    P (allProfileIds.foldl (detachProfile h) (stepped s h d .records))
  beginBuild : ∀ s, P s → P (beginBuild s)
  ready : ∀ s snap stale left, s.calendar.builder = .building snap stale left → P s →
    P { s with calendar.builder := .ready (buildShadow snap) }
  time : ∀ s, P s → P { s with calendar.builder := s.calendar.builder.tick }
  reset : P State.reset

namespace TableSteps

variable {G P : State → Prop} (rule : TableSteps G P)
include rule

theorem startEngine {s : State} (holds : P s) : P (startEngine s) := rule.frameRule.startEngine holds

theorem setItem (h : HostId) (item : ConfigItem) {s : State} (holds : P s) : P (setItem h s item) := by
  cases item <;> exact rule.same holds ⟨rfl, rfl, rfl, rfl⟩

theorem effect (h : HostId) (cmd : Handed) (s t : State) (effect : Effect h cmd s t) (holds : P s) : P t := by
  cases effect with
  | nothing => exact holds
  | attach => exact rule.same holds ⟨rfl, rfl, rfl, rfl⟩
  | getNotice => exact rule.setPort h _ holds
  | setAttention => exact rule.setPort h _ holds
  | submit _ read fresh held usable fits quota room =>
    exact rule.submitted s h _ _ _ read fresh held usable fits quota room holds
  | cancel found => exact rule.toTableRule.cancelled (request_self found) holds
  | resume found suspended => exact rule.trigger _ (rule.resume s h _ _ found suspended holds)
  | createProfile _ quota free => exact rule.create s h _ _ _ quota free holds
  | edit held owner edit => exact rule.edit s h _ _ _ held owner edit holds
  | rebuild => exact rule.trigger s holds
  | ackRecord => exact rule.acknowledgementReport h _ (rule.setMailbox h _ holds)
  | setHold _ limit =>
    exact List.foldlRecOn _ _ (rule.setMailbox h _ holds) fun t holds r _ => rule.discardRecord h r holds
  | claim => exact rule.same holds ⟨rfl, rfl, rfl, rfl⟩
  | release => exact rule.same holds ⟨rfl, rfl, rfl, rfl⟩
  | setConfig _ item => exact rule.setItem h item holds
  | setQuota requests profiles live owned => exact rule.quota s _ _ requests profiles live owned holds
  | start => exact rule.startEngine holds
  | stop => exact rule.frameRule.stopped holds
  | setMap => exact rule.same holds (.of_link (replaceEntry_touches ..))

theorem took (c : CommandCode) (h : HostId) (s t : State) (took : Took c h s t) (holds : P s) : P t := by
  refine keeps_took (fun s h c holds => rule.setPort h _ holds)
    (fun s h cmd status results holds => rule.setPort h _ holds) rule.effect
    (fun s h serial holds => rule.setPort h _ holds) (fun s h serial f _ _ holds => ?_)
    (fun s c holds => rule.same holds (.of_link (direct_touches c s))) c h s t took holds
  exact rule.same (rule.frameRule.abandonNext holds) ⟨rfl, rfl, rfl, rfl⟩

theorem buildReady (s : State) (snap : List Candidate) (stale : Bool) (left : Nat)
    (building : s.calendar.builder = .building snap stale left) (holds : P s) : P (buildReady snap s) := by
  refine rule.same (rule.ready s snap stale left building holds) (.foldl _ _ _ fun t h => ?_)
  split
  · exact .postNotice ..
  · exact .refl t

theorem stepped {s : State} (h : HostId) (d : Detach) (next : DetachStep) (holds : P s) :
    P (Proofs.stepped s h d next) := rule.setPort h _ holds

theorem happening (s t : State) (happened : Happening s t) (known : G s) (holds : P s) : P t := by
  cases happened with
  | nothing => exact holds
  | powerOn => exact rule.same rule.reset ⟨rfl, rfl, rfl, rfl⟩
  | pulse h => exact rule.setPort h _ (rule.setPort h _ holds)
  | transfer h touches =>
    rw [touches]
    exact rule.setPort h _ holds
  | takeFrame h frame =>
    have taken := rule.setPort h (taking (s.port h)) holds
    rcases checkFrame_cases h (s.port h).nextSerial frame (s.setPort h (taking (s.port h))) with
      ⟨r, answered⟩ | ⟨c, args, -, handed⟩
    · rw [answered]
      exact rule.setPort h _ taken
    · rw [handed, handOn_eq]
      exact rule.same taken ⟨rfl, rfl, rfl, rfl⟩
  | answer h =>
    rw [deliverAnswer_eq]
    exact rule.same holds ⟨rfl, rfl, rfl, rfl⟩
  | detachRequests h => exact rule.freed _ h (rule.stepped h _ _ holds)
  | detachProfiles h busy next => exact rule.orphans s h _ busy next known holds
  | detachDirect h => exact rule.same (rule.stepped h _ _ holds) (.of_link (detachDirect_touches ..))
  | detachClaim h =>
    rw [freeClaim_eq]
    exact rule.same holds ⟨rfl, rfl, rfl, rfl⟩
  | claimExpiry =>
    exact rule.same (rule.same (t := { s with engine.claim := none }) holds ⟨rfl, rfl, rfl, rfl⟩) (.postNotice ..)
  | holdTimeout h => exact rule.discardRecord h _ holds
  | buildAgain => exact rule.beginBuild s holds
  | buildReady building => exact rule.buildReady s _ _ _ building holds
  | slotStart => exact rule.frameRule.slotStart holds
  | exposureExpiry => exact rule.frameRule.setupPointIfDue (rule.same holds ⟨rfl, rfl, rfl, rfl⟩)
  | frameStart => exact rule.frameRule.frameStarted _ holds
  | frameStartIgnored => exact rule.frameRule.frameStartIgnored holds
  | frameEnd => exact rule.frameRule.frameEnded _ holds
  | writeAcknowledged => exact rule.same holds (.of_link (writeAcknowledged_touches ..))
  | writeRefused => exact rule.same holds (.of_link (writeRefused_touches ..))
  | drainEnd => exact rule.same holds (.of_link (drainEnd_touches ..))
  | directDone =>
    refine rule.same ?_ (.of_link (linkIdle_touches _))
    rw [deliverAnswer_eq]
    exact rule.setPort _ _ holds
  | _ => exact rule.same holds ⟨rfl, rfl, rfl, rfl⟩

/-- The form is kept by every step. -/
theorem keeps {s t : State} (falls : step s = .next t) (queue : ∀ s q, G s → G { s with pending := q })
    (known : G s) (holds : P s) : P t := by
  refine step_induction (R := fun s t => G s → P s → P t) (fun _ _ holds => holds) (fun s _ holds => ?_)
    (fun i s t row known holds => ?_)
    (fun s q t keeps known holds => keeps (queue s q known) (rule.same holds ⟨rfl, rfl, rfl, rfl⟩))
    falls known holds
  · exact rule.same (rule.time s holds) ⟨rfl, rfl, rfl, rfl⟩
  · rcases took_or_happened row with ⟨c, h, took⟩ | happened
    · exact rule.took c h s t took holds
    · exact rule.happening s t happened known holds

end TableSteps

end Sys2Proof.Proofs

/-! The request table keeps its form (R1, R2, R4): what each move makes of it, and the first free admission
sequence. -/

namespace Sys2Proof.Proofs

open Sys2Proof.Machine Sys2Proof.Safety

/-! ### Numbers in argument bytes -/

theorem beNat_foldl_lt (bytes : List Byte) (n : Nat) :
    bytes.foldl (fun n b => n * 256 + b.toNat) n < (n + 1) * 256 ^ bytes.length := by
  induction bytes generalizing n with
  | nil => simp
  | cons b rest ih =>
    have byte : b.toNat < 256 := b.isLt
    refine (ih (n * 256 + b.toNat)).trans_le ?_
    rw [List.length_cons, pow_succ', ← mul_assoc]
    exact Nat.mul_le_mul_right _ (by omega)

theorem beNat_lt (bytes : List Byte) : beNat bytes < 256 ^ bytes.length := by
  simpa [beNat] using beNat_foldl_lt bytes 0

theorem field_lt (args : List Byte) (start len : Nat) : field args start len < 256 ^ len :=
  (beNat_lt _).trans_le (Nat.pow_le_pow_right (by decide) (by simp))

theorem field_byte_le (args : List Byte) (start : Nat) : field args start 1 ≤ 255 :=
  Nat.le_of_lt_succ (field_lt args start 1)

/-! ### The first free admission sequence (R2) -/

/-- The values before the one given are all held. -/
theorem firstFreeSequence_spec (table : List Request) (fuel : Nat) (n : BitVec 32) :
    ∃ k ≤ fuel, firstFreeSequence table fuel n = n + BitVec.ofNat 32 k ∧
      (∀ i < k, ∃ r ∈ table, r.sequence = n + BitVec.ofNat 32 i) ∧
      (k < fuel → ∀ r ∈ table, r.sequence ≠ n + BitVec.ofNat 32 k) := by
  induction fuel generalizing n with
  | zero => exact ⟨0, le_refl _, by simp [firstFreeSequence], fun i less => absurd less (by omega), fun less => absurd less (by omega)⟩
  | succ fuel ih =>
    unfold firstFreeSequence
    split
    · rename_i held
      obtain ⟨k, le, value, before, free⟩ := ih (n + 1)
      have shift (i : Nat) : n + 1 + BitVec.ofNat 32 i = n + BitVec.ofNat 32 (i + 1) := by
        rw [BitVec.add_assoc, BitVec.add_comm 1, BitVec.ofNat_add]
        rfl
      refine ⟨k + 1, by omega, by rw [value, shift], fun i less => ?_, fun less => ?_⟩
      · cases i with
        | zero => simpa using held
        | succ i =>
          rw [← shift]
          exact before i (by omega)
      · rw [← shift]
        exact free (by omega)
    · rename_i free
      refine ⟨0, by omega, by simp, fun i less => absurd less (by omega), fun _ r here same => free ?_⟩
      simp only [List.any_eq_true, beq_iff_eq]
      exact ⟨r, here, by simpa using same⟩

/-- With fewer live requests than values, the next admission sequence is held by none (R2). -/
theorem nextSequence_free {m : RequestManager} (few : m.table.length < 2 ^ 32) :
    ∀ r ∈ m.table, r.sequence ≠ nextSequence m := by
  obtain ⟨k, le, value, before, free⟩ := firstFreeSequence_spec m.table m.table.length (m.counter + 1)
  rw [nextSequence, value]
  rcases Nat.lt_or_ge k m.table.length with less | all
  · exact free less
  · obtain rfl : k = m.table.length := by omega
    intro r here same
    have all (i : Fin (m.table.length + 1)) :
        m.counter + 1 + BitVec.ofNat 32 i ∈ m.table.map (·.sequence) := by
      rw [List.mem_map]
      rcases Nat.lt_or_ge i m.table.length with less | last
      · exact before i less
      · exact ⟨r, here, by rw [same, show i.val = m.table.length by omega]⟩
    have injective : Function.Injective fun i : Fin (m.table.length + 1) =>
        m.counter + 1 + BitVec.ofNat 32 i := by
      intro i j equal
      have low := BitVec.add_right_inj _ |>.mp equal
      have := congrArg BitVec.toNat low
      simp only [BitVec.toNat_ofNat] at this
      rw [Nat.mod_eq_of_lt (by omega), Nat.mod_eq_of_lt (by omega)] at this
      exact Fin.ext this
    have fits : Finset.image (fun i : Fin (m.table.length + 1) => m.counter + 1 + BitVec.ofNat 32 i)
        Finset.univ ⊆ (m.table.map (·.sequence)).toFinset := by
      intro x here
      obtain ⟨i, -, rfl⟩ := Finset.mem_image.mp here
      exact List.mem_toFinset.mpr (all i)
    have count := Finset.card_le_card fits
    rw [Finset.card_image_of_injective _ injective, Finset.card_univ, Fintype.card_fin] at count
    have short := List.toFinset_card_le (m.table.map (·.sequence))
    rw [List.length_map] at short
    omega

/-! ### The request table after each move -/

theorem requestsOk_of_table {s t : State} (ok : RequestsOk s) (same : t.requests.table = s.requests.table) :
    RequestsOk t where
  size := same ▸ ok.size
  named := same ▸ ok.named
  admitted := same ▸ ok.admitted
  fields := same ▸ ok.fields

/-- A live request is the one its name finds (R1). -/
theorem named_unique {s : State} (ok : RequestsOk s) {q r : Request} (inQ : q ∈ s.requests.table)
    (inR : r ∈ s.requests.table) (owner : q.owner = r.owner) (tag : q.tag = r.tag) : q = r := by
  by_contra ne
  have symm : Std.Symm fun a b : Request => ¬(a.owner = b.owner ∧ a.tag = b.tag) :=
    ⟨fun _ _ other same => other ⟨same.1.symm, same.2.symm⟩⟩
  exact ok.named.forall inQ inR ne ⟨owner, tag⟩

theorem named_iff {r : Request} {h : HostId} {tag : Nat} : r.named h tag = true ↔ r.owner = h ∧ r.tag = tag := by
  simp [Request.named]

/-- A request in the table is found by its name. -/
theorem request_of_mem {s : State} (ok : RequestsOk s) {r : Request} (here : r ∈ s.requests.table) :
    s.request r.owner r.tag = some r := by
  cases found : s.request r.owner r.tag with
  | none =>
    rw [State.request, List.find?_eq_none] at found
    exact absurd (named_self r) (found r here)
  | some q =>
    obtain ⟨owner, tag⟩ := request_named found
    rw [named_unique ok (request_mem found) here owner tag]

/-- A change of the request of a name that keeps what the table goes by. -/
theorem requestsOk_updateRequest {s : State} (ok : RequestsOk s) (h : HostId) (tag : Nat)
    {f : Request → Request}
    (kept : ∀ r ∈ s.requests.table, r.owner = h → r.tag = tag →
      (f r).owner = r.owner ∧ (f r).tag = r.tag ∧ (f r).sequence = r.sequence ∧ RequestOk (f r)) :
    RequestsOk (s.updateRequest h tag f) := by
  have each : ∀ r ∈ s.requests.table, let q := if r.named h tag then f r else r
      q.owner = r.owner ∧ q.tag = r.tag ∧ q.sequence = r.sequence ∧ RequestOk q := fun r here => by
    dsimp only
    split
    · obtain ⟨owner, name⟩ := named_iff.mp ‹_›
      exact kept r here owner name
    · exact ⟨rfl, rfl, rfl, ok.fields r here⟩
  constructor
  · simpa [State.updateRequest] using ok.size
  · rw [State.updateRequest, State.setTable_table, List.pairwise_map]
    refine ok.named.imp_of_mem fun {a b} inA inB other => ?_
    rw [(each a inA).1, (each a inA).2.1, (each b inB).1, (each b inB).2.1]
    exact other
  · rw [State.updateRequest, State.setTable_table, List.pairwise_map]
    refine ok.admitted.imp_of_mem fun {a b} inA inB other => ?_
    rw [(each a inA).2.2.1, (each b inB).2.2.1]
    exact other
  · intro r here
    rw [State.updateRequest, State.setTable_table, List.mem_map] at here
    obtain ⟨q, inQ, rfl⟩ := here
    exact (each q inQ).2.2.2

/-- A change that keeps the name and the sequence of every request and its form. -/
theorem requestsOk_update {s : State} (ok : RequestsOk s) (h : HostId) (tag : Nat) {f : Request → Request}
    (kept : ∀ r, (f r).owner = r.owner ∧ (f r).tag = r.tag ∧ (f r).sequence = r.sequence)
    (form : ∀ r ∈ s.requests.table, RequestOk r → RequestOk (f r)) : RequestsOk (s.updateRequest h tag f) :=
  requestsOk_updateRequest ok h tag fun r here _ _ =>
    ⟨(kept r).1, (kept r).2.1, (kept r).2.2, form r here (ok.fields r here)⟩

theorem requestsOk_sublist {s t : State} (ok : RequestsOk s)
    (fewer : t.requests.table.Sublist s.requests.table) : RequestsOk t where
  size := fewer.length_le.trans ok.size
  named := ok.named.sublist fewer
  admitted := ok.admitted.sublist fewer
  fields r here := ok.fields r (fewer.subset here)

theorem abortTune_requests (id : Fin 16) (s : State) : (abortTune id s).requests = s.requests := by
  rcases SameTables.abortTune_cases id s with ⟨same, -⟩ | ⟨p, loop, -, -, -, same⟩
  · exact same.requests
  · exact same.requests

theorem tellLeft_requests (r : Request) (s : State) : (tellLeft r s).requests = s.requests := by
  unfold tellLeft
  split
  · exact abortTune_requests ..
  · rfl

theorem lowerReference_requests (id : Fin 16) (s : State) : (lowerReference id s).requests = s.requests := by
  unfold lowerReference
  split
  · rfl
  · split <;> rfl

theorem raiseReference_requests (id : Fin 16) (s : State) : (raiseReference id s).requests = s.requests := by
  unfold raiseReference
  split <;> rfl

theorem leaveCalendar_requests (r : Request) (s : State) : (leaveCalendar r s).requests = s.requests := by
  rw [leaveCalendar_eq]

theorem trigger_requests (s : State) : (trigger s).requests = s.requests := by rw [trigger_eq]

/-- The entry of a request is gone when it has been freed (R6). -/
theorem freeEntry_table (r : Request) (s : State) :
    (freeEntry r s).requests.table = s.requests.table.filter fun q => !q.named r.owner r.tag := by
  rw [freeEntry, clearEntry, lowerReference_requests, State.setTable_table, leaveCalendar_requests]

theorem left_table (r : Request) (s : State) :
    (tellLeft r (freeEntry r s)).requests.table =
      s.requests.table.filter fun q => !q.named r.owner r.tag := by
  rw [tellLeft_requests, freeEntry_table]

/-- Suspension sets the state of the request of that name (R20). -/
theorem suspend_table (r : Request) (s : State) :
    (suspend r s).requests.table =
      s.requests.table.map fun q =>
        if q.named r.owner r.tag then { q with state := .suspended } else q := by
  rw [suspend, tellLeft_requests, (SameTables.postNotice ..).requests]
  rw [State.updateRequest, State.setTable_table, leaveCalendar_requests]

end Sys2Proof.Proofs

/-! Every step keeps the request table, and every tune with an ACTIVE request (O56). -/

namespace Sys2Proof.Proofs

open Sys2Proof.Machine Sys2Proof.Safety

/-! ### Requests freed one after another -/

/-- Requests that stand in the table under different names leave it one after another. -/
theorem TableRule.foldl_freeDetached {P : State → Prop} (rule : TableRule P) (known : ∀ s, P s → RequestsOk s)
    (l : List Request) {acc : State × Bool} (here : ∀ r ∈ l, r ∈ acc.1.requests.table)
    (names : l.Pairwise fun a b => ¬(a.owner = b.owner ∧ a.tag = b.tag)) (holds : P acc.1) :
    P (l.foldl freeDetached acc).1 := by
  induction l generalizing acc with
  | nil => exact holds
  | cons r rest ih =>
    rw [List.pairwise_cons] at names
    refine ih (fun q inRest => ?_) names.2
      (rule.leave acc.1 r (request_of_mem (known _ holds) (here r (List.mem_cons_self ..))) holds)
    rw [freeDetached, left_table, List.mem_filter]
    refine ⟨here q (List.mem_cons_of_mem _ inRest), ?_⟩
    simp only [Bool.not_eq_true', ← Bool.not_eq_true, named_iff]
    exact fun same => names.1 q inRest ⟨same.1.symm, same.2.symm⟩

theorem TableRule.freeRequestsOf {P : State → Prop} (rule : TableRule P) (known : ∀ s, P s → RequestsOk s)
    (h : HostId) {s : State} (holds : P s) : P (freeRequestsOf h s) := by
  have sorted := List.perm_insertionSort (fun a b : Request => a.tag ≤ b.tag) (s.requestsOf h)
  refine rule.rebuildIfWaiting _ (rule.foldl_freeDetached known _ (fun r inList => ?_) ?_ holds)
  · exact List.mem_of_mem_filter (sorted.mem_iff.mp inList)
  · have names := (known s holds).named.sublist (List.filter_sublist (p := fun r => r.owner == h))
    exact sorted.symm.pairwise names fun {a b} other same => other ⟨same.1.symm, same.2.symm⟩

/-! ### What the swap makes of the requests -/

/-- A fold of the swap's states over some requests keeps a form that each of them keeps. -/
theorem setSwapState_tables (placed : List Placed) (s : State) (r : Request) :
    SameTables
      (s.updateRequest r.owner r.tag fun q => { q with state := swapState (placedPhase placed r) })
      (setSwapState placed s r) := by
  unfold setSwapState
  dsimp only
  split
  · exact .postNotice ..
  · exact .refl _

/-- The swap on a form that looks at the requests and the profiles. -/
theorem swap_induction {P : State → Prop} (same : ∀ {s t}, P s → SameTables s t → P t)
    (calendar : ∀ {s} c, P s → P { s with calendar := c })
    (states : ∀ {s} h tag state, P s → P (s.updateRequest h tag fun q => { q with state := state }))
    (aborts : ∀ {s} id, P s → P (abortTune id s)) (sh : Shadow) {s : State} (holds : P s) :
    P (swap sh s) := by
  refine same (calendar _ (List.foldlRecOn allProfileIds _ (List.foldlRecOn _ _ (calendar _ holds)
    fun t holds r _ => ?_) fun t holds id _ => aborts id holds)) (.postToAll ..)
  exact same (states _ _ _ holds) (setSwapState_tables sh.placed t r)

/-! ### The request table (R1, R2, R4) -/

theorem requestsOk_suspend {s : State} (ok : RequestsOk s) (r : Request) : RequestsOk (suspend r s) := by
  refine requestsOk_of_table (s := s.updateRequest r.owner r.tag fun q => { q with state := .suspended })
    (requestsOk_update ok _ _ (fun _ => ⟨rfl, rfl, rfl⟩) ?_) (suspend_table r s)
  exact fun q _ ⟨tag, period, phase, priority, limit, misses, burst⟩ =>
    ⟨tag, period, phase, priority, limit, misses, burst⟩

theorem requestsOk_abortTune {s : State} (ok : RequestsOk s) (id : Fin 16) : RequestsOk (abortTune id s) :=
  requestsOk_of_table ok (by rw [abortTune_requests])

theorem requestsOk_tableRule : TableRule RequestsOk where
  same ok same := requestsOk_of_table ok (by rw [same.requests])
  acknowledge s h tag ok := requestsOk_update ok h tag (fun _ => ⟨rfl, rfl, rfl⟩)
    fun r _ ⟨tag, period, phase, priority, limit, _, burst⟩ =>
      ⟨tag, period, phase, priority, limit, Nat.zero_le _, burst⟩
  charge s h tag r found ok := by
    refine requestsOk_updateRequest ok h tag fun q here owner name => ?_
    obtain ⟨owner', name'⟩ := request_named found
    obtain rfl := named_unique ok here (request_mem found) (owner.trans owner'.symm) (name.trans name'.symm)
    obtain ⟨tag, period, phase, priority, limit, misses, burst⟩ := ok.fields q here
    exact ⟨rfl, rfl, rfl, tag, period, phase, priority, limit, saturatingSucc_le misses, burst⟩
  suspend s r _ ok := requestsOk_suspend ok r
  count s h tag r count done found burst ne ok := by
    refine requestsOk_updateRequest ok h tag fun q here owner name => ?_
    obtain ⟨owner', name'⟩ := request_named found
    obtain rfl := named_unique ok here (request_mem found) (owner.trans owner'.symm) (name.trans name'.symm)
    obtain ⟨tag, period, phase, priority, limit, misses, counted⟩ := ok.fields q here
    refine ⟨rfl, rfl, rfl, tag, period, phase, priority, limit, misses, fun a b same => ?_⟩
    obtain ⟨low, high, less⟩ := counted count done burst
    cases same
    exact ⟨low, high, by omega⟩
  leave s r _ ok := requestsOk_sublist ok (by rw [left_table]; exact List.filter_sublist)
  judged s id p e g m _ _ _ ok := requestsOk_of_table ok rfl
  trigger s ok := requestsOk_of_table ok (by rw [trigger_requests])
  swap s sh _ ok := by
    refine swap_induction (P := RequestsOk) (fun ok same => requestsOk_of_table ok (by rw [same.requests]))
      (fun c ok => requestsOk_of_table ok rfl) (fun h tag state ok => ?_)
      (fun id ok => requestsOk_abortTune ok id) sh ok
    exact requestsOk_update ok h tag (fun _ => ⟨rfl, rfl, rfl⟩)
      fun r _ ⟨tag, period, phase, priority, limit, misses, burst⟩ =>
        ⟨tag, period, phase, priority, limit, misses, burst⟩

/-- What SUBMIT reads has the ranges of Table 1-3. -/
theorem requestOk_admitted {args : List Byte} {a : SubmitArgs} (read : submitArgs args = some a) (h : HostId)
    (n : BitVec 32) : RequestOk (admitted h a n) := by
  have tag := field_byte_le args 0
  have count : field args 7 2 < 65536 := field_lt args 7 2
  simp only [submitArgs] at read
  split at read
  · cases read
  · simp only [guardSome, Option.ite_none_right_eq_some, Bool.and_eq_true, decide_eq_true_eq, beq_iff_eq,
      Option.some.injEq] at read
    obtain ⟨⟨⟨⟨⟨⟨⟨⟨-, low⟩, -⟩, period⟩, phase⟩, priority⟩, limit⟩, counts⟩, rfl⟩ := read
    refine ⟨⟨low, tag⟩, period, phase, priority, limit, Nat.zero_le _, fun c d burst => ?_⟩
    dsimp only [admitted] at burst
    split at burst
    · cases burst
    · rename_i isBurst
      cases burst
      simp only [isBurst, if_false, decide_eq_true_eq] at counts
      exact ⟨by simpa using counts, by omega, by have : 1 ≤ field args 7 2 := by simpa using counts
                                                 omega⟩

theorem admitRequest_table (h : HostId) (a : SubmitArgs) (s : State) :
    (admitRequest h a s).requests.table = s.requests.table ++ [admitted h a (nextSequence s.requests)] := by
  rw [admitRequest, trigger_requests, raiseReference_requests]

theorem requestsOk_admitRequest {s : State} (ok : RequestsOk s) {h : HostId} {args : List Byte} {a : SubmitArgs}
    (read : submitArgs args = some a) (fresh : s.request h a.tag = none)
    (room : s.requests.table.length < 32) : RequestsOk (admitRequest h a s) := by
  have table := admitRequest_table h a s
  constructor
  · rw [table, List.length_append, List.length_singleton]
    omega
  · rw [table, List.pairwise_append]
    refine ⟨ok.named, List.pairwise_singleton .., fun q here r last same => ?_⟩
    rw [List.mem_singleton.mp last] at same
    rw [State.request, List.find?_eq_none] at fresh
    exact fresh q here (named_iff.mpr same)
  · rw [table, List.pairwise_append]
    refine ⟨ok.admitted, List.pairwise_singleton .., fun q here r last => ?_⟩
    rw [List.mem_singleton.mp last]
    exact nextSequence_free (by omega) q here
  · rw [table]
    intro r here
    rw [List.mem_append, List.mem_singleton] at here
    rcases here with old | rfl
    · exact ok.fields r old
    · exact requestOk_admitted read h _

theorem detachProfile_requests (h : HostId) (s : State) (id : Fin 16) :
    (detachProfile h s id).requests = s.requests := by
  unfold detachProfile
  split
  · rfl
  · split
    · split
      · refine (SameTables.foldl _ allHosts _ fun t g => ?_).requests
        split
        · exact .postNotice ..
        · exact .refl t
      · rfl
    · rfl

theorem detachProfiles_requests (h : HostId) (s : State) (ids : List (Fin 16)) :
    (ids.foldl (detachProfile h) s).requests = s.requests :=
  List.foldlRecOn (motive := fun t : State => t.requests = s.requests) ids _ rfl fun t same id _ =>
    (detachProfile_requests h t id).trans same

theorem requestsOk_steps : TableSteps (fun _ => True) RequestsOk where
  toTableRule := requestsOk_tableRule
  resume s h tag r _ _ ok := requestsOk_update ok _ _ (fun _ => ⟨rfl, rfl, rfl⟩)
    fun q _ ⟨tag, period, phase, priority, limit, _, burst⟩ =>
      ⟨tag, period, phase, priority, limit, Nat.zero_le _, burst⟩
  submitted s h args a p read fresh _ _ _ _ room ok := requestsOk_admitRequest ok read fresh room
  create s h id width height _ _ ok := requestsOk_of_table ok rfl
  edit s h id p q _ _ _ ok := requestsOk_of_table ok rfl
  quota s g q _ _ _ _ ok := requestsOk_of_table ok rfl
  freed s h ok := requestsOk_tableRule.freeRequestsOf (fun _ ok => ok) h ok
  orphans s h d _ _ _ ok := requestsOk_of_table ok (by rw [detachProfiles_requests]; rfl)
  beginBuild s ok := requestsOk_of_table ok rfl
  ready s snap stale left _ ok := requestsOk_of_table ok rfl
  time s ok := requestsOk_of_table ok rfl
  reset := ⟨by decide, .nil, .nil, fun r here => nomatch here⟩

theorem step_keeps_requestsOk {s t : State} (falls : step s = .next t) (ok : RequestsOk s) : RequestsOk t :=
  requestsOk_steps.keeps falls (fun _ _ known => known) trivial ok

/-! ### Tunes in use (R87, R90, R100) -/

/-- Every profile in TUNING but those named has an ACTIVE request. -/
def TunesBut (X : Fin 16 → Prop) (s : State) : Prop :=
  ∀ id, ¬X id → ∀ p loop, s.profile id = some p → p.mode = .tuning loop → s.hasActiveUser id = true

theorem tunesInUse_iff (s : State) : TunesInUse s ↔ TunesBut (fun _ => False) s :=
  ⟨fun ok id _ p loop held tuning => ok id p loop held tuning,
    fun ok id p loop held tuning => ok id (fun no => no) p loop held tuning⟩

theorem TunesBut.mono {X Y : Fin 16 → Prop} {s : State} (ok : TunesBut X s) (fewer : ∀ id, X id → Y id) :
    TunesBut Y s := fun id out => ok id fun x => out (fewer id x)

theorem tunesBut_same {X : Fin 16 → Prop} {s t : State} (ok : TunesBut X s) (same : SameTables s t) :
    TunesBut X t := fun id out p loop held tuning => by
  rw [same.profile] at held
  rw [same.hasActiveUser]
  exact ok id out p loop held tuning

theorem hasActiveUser_iff {s : State} {id : Fin 16} :
    s.hasActiveUser id = true ↔ ∃ r ∈ s.requests.table, r.profile = id ∧ r.isActive = true := by
  simp [State.hasActiveUser]

/-- The tunes go on where the profiles are as they were and their users stay. -/
theorem tunesBut_of_users {X : Fin 16 → Prop} {s t : State} (ok : TunesBut X s)
    (profiles : t.profiles = s.profiles)
    (users : ∀ id, ¬X id → ∀ r ∈ s.requests.table, r.profile = id → r.isActive = true →
      ∃ q ∈ t.requests.table, q.profile = id ∧ q.isActive = true) : TunesBut X t :=
  fun id out p loop held tuning => by
    rw [State.profile, profiles] at held
    obtain ⟨r, here, names, active⟩ := hasActiveUser_iff.mp (ok id out p loop held tuning)
    exact hasActiveUser_iff.mpr (users id out r here names active)

/-- A profile replaced by one that does not begin a tune. -/
theorem tunesBut_setProfile {X : Fin 16 → Prop} {s : State} (ok : TunesBut X s) (id : Fin 16)
    (q : Option Profile)
    (begins : ∀ p loop, q = some p → p.mode = .tuning loop → ¬X id → s.hasActiveUser id = true) :
    TunesBut X (s.setProfile id q) := fun j out p loop held tuning => by
  rw [State.setProfile_profile] at held
  change s.hasActiveUser j = true
  split at held
  · rename_i same
    subst same
    exact begins p loop held tuning out
  · exact ok j out p loop held tuning

theorem tunesBut_abortTune {X : Fin 16 → Prop} {s : State} (ok : TunesBut X s) (id : Fin 16) :
    TunesBut (fun j => X j ∧ j ≠ id) (abortTune id s) := by
  rcases SameTables.abortTune_cases id s with ⟨same, used⟩ | ⟨p, loop, held, tuning, unused, same⟩
  · refine tunesBut_same (fun j out p loop held tuning => ?_) same
    by_cases own : j = id
    · subst own
      exact used p loop held tuning
    · exact ok j (fun x => out ⟨x, own⟩) p loop held tuning
  · refine tunesBut_same (fun j out q loop' held' tuning' => ?_) same
    rw [State.setProfile_profile] at held'
    split at held'
    · cases held'
      cases tuning'
    · rename_i other
      exact ok j (fun x => out ⟨x, other⟩) q loop' held' tuning'

/-- The tune that the leaving of a request may have ended is looked after (R100). -/
theorem tunesInUse_tellLeft {s : State} {r : Request}
    (ok : TunesBut (fun id => r.isActive = true ∧ id = r.profile) s) : TunesInUse (tellLeft r s) := by
  rw [tunesInUse_iff]
  unfold tellLeft
  split
  · exact (tunesBut_abortTune ok r.profile).mono fun id out => out.2 out.1.2
  · rename_i passive
    exact ok.mono fun id x => passive x.1

theorem tunesBut_lowerReference {X : Fin 16 → Prop} {s : State} (ok : TunesBut X s) (id : Fin 16) :
    TunesBut X (lowerReference id s) := by
  cases held : s.profile id with
  | none => simpa [lowerReference, held] using ok
  | some p =>
    rw [lowerReference_eq held]
    refine tunesBut_setProfile ok id _ fun q loop new tuning out => ?_
    split at new <;> cases new
    exact ok id out p loop held tuning

/-- A request changed in a way that keeps it ACTIVE for its profile. -/
theorem tunesInUse_update {s : State} (ok : TunesInUse s) (h : HostId) (tag : Nat) {f : Request → Request}
    (kept : ∀ q ∈ s.requests.table, q.owner = h → q.tag = tag → q.isActive = true →
      (f q).profile = q.profile ∧ (f q).isActive = true) : TunesInUse (s.updateRequest h tag f) := by
  rw [tunesInUse_iff] at ok ⊢
  refine tunesBut_of_users ok rfl fun id _ r here names active =>
    ⟨_, List.mem_map_of_mem here, ?_⟩
  split
  · obtain ⟨owner, name⟩ := named_iff.mp ‹_›
    obtain ⟨profile, stays⟩ := kept r here owner name active
    exact ⟨profile.trans names, stays⟩
  · exact ⟨names, active⟩

/-- The request table and the tunes together: a suspension and a leaving look after the tune they may end. -/
def RequestsAndTunes (s : State) : Prop := RequestsOk s ∧ TunesInUse s

theorem tunesInUse_suspend {s : State} (ok : RequestsAndTunes s) {r : Request}
    (found : s.request r.owner r.tag = some r) : TunesInUse (suspend r s) := by
  obtain ⟨requests, tunes⟩ := ok
  refine tunesInUse_tellLeft (tunesBut_same (tunesBut_of_users
    ((tunesInUse_iff s).mp tunes |>.mono fun _ no => no.elim) ?_ fun id out q here names active => ?_)
    (.postNotice ..))
  · rw [leaveCalendar_eq]
    rfl
  · refine ⟨q, ?_, names, active⟩
    rw [State.updateRequest, State.setTable_table, leaveCalendar_requests, List.mem_map]
    refine ⟨q, here, if_neg fun named => ?_⟩
    obtain ⟨owner, tag⟩ := named_iff.mp named
    obtain rfl := named_unique requests here (request_mem found) owner tag
    exact out ⟨active, names.symm⟩

theorem tunesInUse_leave {s : State} (ok : RequestsAndTunes s) {r : Request}
    (found : s.request r.owner r.tag = some r) : TunesInUse (tellLeft r (freeEntry r s)) := by
  obtain ⟨requests, tunes⟩ := ok
  refine tunesInUse_tellLeft (tunesBut_lowerReference (tunesBut_of_users
    ((tunesInUse_iff s).mp tunes |>.mono fun _ no => no.elim) ?_ fun id out q here names active => ?_) _)
  · rw [leaveCalendar_eq]
    rfl
  · refine ⟨q, ?_, names, active⟩
    rw [State.setTable_table, leaveCalendar_requests, List.mem_filter]
    refine ⟨here, ?_⟩
    simp only [Bool.not_eq_true', ← Bool.not_eq_true, named_iff]
    rintro ⟨owner, tag⟩
    obtain rfl := named_unique requests here (request_mem found) owner tag
    exact out ⟨active, names.symm⟩

end Sys2Proof.Proofs

/-! Every step keeps every profile in TUNING with an ACTIVE request (O56), every calendar's form (O57), and every host
within its quotas (O59). -/

namespace Sys2Proof.Proofs

open Sys2Proof.Machine Sys2Proof.Safety

/-! ### Tunes in use, step by step -/

theorem tunesInUse_same {s t : State} (ok : TunesInUse s) (same : SameTables s t) : TunesInUse t :=
  (tunesInUse_iff t).mpr (tunesBut_same ((tunesInUse_iff s).mp ok) same)

/-- A move that leaves the requests ACTIVE that were, and the profiles as they were. -/
theorem tunesInUse_of_table {s t : State} (ok : TunesInUse s) (profiles : t.profiles = s.profiles)
    (table : ∀ r ∈ s.requests.table, r ∈ t.requests.table) : TunesInUse t :=
  (tunesInUse_iff t).mpr (tunesBut_of_users ((tunesInUse_iff s).mp ok) profiles
    fun _ _ r here names active => ⟨r, table r here, names, active⟩)

theorem tunesInUse_setProfile {s : State} (ok : TunesInUse s) (id : Fin 16) (q : Option Profile)
    (begins : ∀ p loop, q = some p → p.mode = .tuning loop → s.hasActiveUser id = true) :
    TunesInUse (s.setProfile id q) :=
  (tunesInUse_iff _).mpr (tunesBut_setProfile ((tunesInUse_iff s).mp ok) id q
    fun p loop new tuning _ => begins p loop new tuning)

theorem tunesInUse_abortAll {s : State} (ids : List (Fin 16)) (ok : TunesBut (· ∈ ids) s) :
    TunesInUse (ids.foldl (fun t id => abortTune id t) s) := by
  induction ids generalizing s with
  | nil => exact (tunesInUse_iff s).mpr (ok.mono fun id here => nomatch here)
  | cons id rest ih =>
    refine ih ((tunesBut_abortTune ok id).mono fun j out => ?_)
    rcases List.mem_cons.mp out.1 with same | inRest
    · exact absurd same out.2
    · exact inRest

theorem tunesBut_all (s : State) : TunesBut (· ∈ allProfileIds) s := by
  intro id out
  exact absurd (mem_allProfileIds id) out

theorem tunesInUse_swap (sh : Shadow) (s : State) : TunesInUse (swap sh s) := by
  unfold swap
  dsimp only
  refine tunesInUse_same ?_ (.postToAll ..)
  generalize on : setSwapStates _ _ = u
  have used : TunesInUse u := by
    rw [← on]
    exact tunesInUse_abortAll allProfileIds (tunesBut_all _)
  exact tunesInUse_of_table used rfl fun _ here => here

theorem asked_tuning {m : Mode} {asked : AskedMode} {loop : Loop} (tuning : m.asked asked = .tuning loop) :
    False := by
  cases asked
  · cases tuning
  · cases m <;> cases tuning

theorem tunesInUse_edit {s : State} (ok : TunesInUse s) {h : HostId} {id : Fin 16} {p : Profile}
    {q : Option Profile} (held : s.profile id = some p) (edit : Edit s h id p q) :
    TunesInUse (s.setProfile id q) := by
  refine tunesInUse_setProfile ok id q fun x loop new tuning => ?_
  cases edit with
  | delete => cases new
  | mode asked =>
    cases new
    exact (asked_tuning tuning).elim
  | tune _ used => exact used
  | _ =>
    cases new
    exact ok id p loop held tuning

/-- What a detach makes of an entry of the profile table (R38). -/
theorem detachProfile_cases (h : HostId) (s : State) (id : Fin 16) :
    (SameTables s (detachProfile h s id) ∧ ∀ p, s.profile id = some p → p.life ≠ .live h) ∨
      ∃ p, s.profile id = some p ∧ p.life = .live h ∧
        (p.sharing = .shared ∧ p.references ≠ 0 ∧
            SameTables (s.setProfile id (some { p with life := .orphaned, mode := .manual }))
              (detachProfile h s id) ∨
          ¬(p.sharing = .shared ∧ p.references ≠ 0) ∧
            SameTables (s.setProfile id none) (detachProfile h s id)) := by
  unfold detachProfile
  split
  · rename_i absent
    exact .inl ⟨.refl s, fun p held => by rw [absent] at held; cases held⟩
  · rename_i p held
    split
    · rename_i live
      refine .inr ⟨p, held, live, ?_⟩
      split
      · rename_i used
        refine .inl ⟨used.1, used.2, .foldl _ _ _ fun t g => ?_⟩
        split
        · exact .postNotice ..
        · exact .refl t
      · rename_i unused
        exact .inr ⟨unused, .refl _⟩
    · rename_i other
      exact .inl ⟨.refl s, fun q held' => by rw [held] at held'; cases held'; exact other⟩

theorem tunesInUse_detachProfile {s : State} (ok : TunesInUse s) (h : HostId) (id : Fin 16) :
    TunesInUse (detachProfile h s id) := by
  rcases detachProfile_cases h s id with ⟨same, -⟩ | ⟨p, held, -, ⟨-, -, same⟩ | ⟨-, same⟩⟩
  · exact tunesInUse_same ok same
  · refine tunesInUse_same (tunesInUse_setProfile ok id _ fun q loop new tuning => ?_) same
    cases new
    cases tuning
  · exact tunesInUse_same (tunesInUse_setProfile ok id none fun q loop new => nomatch new) same

theorem raiseReference_tunes {s : State} (ok : TunesInUse s) (id : Fin 16) : TunesInUse (raiseReference id s) := by
  cases held : s.profile id with
  | none => simpa [raiseReference, held] using ok
  | some p =>
    rw [raiseReference_eq held]
    refine tunesInUse_setProfile ok id _ fun q loop new tuning => ?_
    cases new
    exact ok id p loop held tuning

theorem requestsAndTunes_rule : TableRule RequestsAndTunes where
  same ok same := ⟨requestsOk_tableRule.same ok.1 same, tunesInUse_same ok.2 same⟩
  acknowledge s h tag ok :=
    ⟨requestsOk_tableRule.acknowledge s h tag ok.1, tunesInUse_update ok.2 h tag fun q _ _ _ active => ⟨rfl, active⟩⟩
  charge s h tag r found ok := by
    refine ⟨requestsOk_tableRule.charge s h tag r found ok.1,
      tunesInUse_update ok.2 h tag fun q here owner name active => ?_⟩
    obtain ⟨owner', name'⟩ := request_named found
    obtain rfl := named_unique ok.1 here (request_mem found) (owner.trans owner'.symm) (name.trans name'.symm)
    exact ⟨rfl, active⟩
  suspend s r found ok := ⟨requestsOk_suspend ok.1 r, tunesInUse_suspend ok found⟩
  count s h tag r count done found burst ne ok :=
    ⟨requestsOk_tableRule.count s h tag r count done found burst ne ok.1,
      tunesInUse_update ok.2 h tag fun q _ _ _ active => ⟨rfl, active⟩⟩
  leave s r found ok := ⟨requestsOk_tableRule.leave s r found ok.1, tunesInUse_leave ok found⟩
  judged s id p e g m held goes stays ok := by
    refine ⟨requestsOk_tableRule.judged s id p e g m held goes stays ok.1, tunesInUse_setProfile ok.2 id _ ?_⟩
    intro q loop new tuning
    cases new
    obtain ⟨l, was⟩ := goes loop tuning
    exact ok.2 id p l held was
  trigger s ok := ⟨requestsOk_tableRule.trigger s ok.1, by
    rw [trigger_eq]
    exact ok.2⟩
  swap s sh ready ok := ⟨requestsOk_tableRule.swap s sh ready ok.1, tunesInUse_swap sh s⟩

theorem requestsAndTunes_steps : TableSteps (fun _ => True) RequestsAndTunes where
  toTableRule := requestsAndTunes_rule
  resume s h tag r found suspended ok := by
    refine ⟨requestsOk_steps.resume s h tag r found suspended ok.1,
      tunesInUse_update ok.2 h r.tag fun q here owner name active => ?_⟩
    obtain ⟨owner', -⟩ := request_named found
    obtain rfl := named_unique ok.1 here (request_mem found) (owner.trans owner'.symm) name
    rw [Request.isActive, suspended] at active
    cases active
  submitted s h args a p read fresh held usable fits quota room ok := by
    refine ⟨requestsOk_admitRequest ok.1 read fresh room, ?_⟩
    unfold admitRequest
    rw [trigger_eq]
    refine tunesInUse_of_table (s := raiseReference a.profile _) (raiseReference_tunes ?_ _) rfl fun _ here => here
    exact tunesInUse_of_table ok.2 rfl fun r here => List.mem_append_left _ here
  create s h id width height quota free ok :=
    ⟨requestsOk_steps.create s h id width height quota free ok.1,
      tunesInUse_setProfile ok.2 id _ fun p loop new tuning => by
        cases new
        cases tuning⟩
  edit s h id p q held owner edit ok :=
    ⟨requestsOk_steps.edit s h id p q held owner edit ok.1, tunesInUse_edit ok.2 held edit⟩
  quota s g q _ _ _ _ ok := ⟨requestsOk_of_table ok.1 rfl, ok.2⟩
  freed s h ok := requestsAndTunes_rule.freeRequestsOf (fun _ ok => ok.1) h ok
  orphans s h d busy next known ok :=
    ⟨requestsOk_steps.orphans s h d busy next known ok.1,
      List.foldlRecOn (motive := TunesInUse) allProfileIds _ (by exact ok.2)
        fun t ok id _ => tunesInUse_detachProfile ok h id⟩
  beginBuild s ok := ⟨requestsOk_of_table ok.1 rfl, ok.2⟩
  ready s snap stale left _ ok := ⟨requestsOk_of_table ok.1 rfl, ok.2⟩
  time s ok := ⟨requestsOk_of_table ok.1 rfl, ok.2⟩
  reset := ⟨requestsOk_steps.reset, fun id p loop held => by
    simp [State.profile, State.reset] at held⟩

/-- Settles O56: a suspension, a leaving and a swap look after the tunes that they may end, and every other move keeps
the names, the sequences and the fields of the requests. -/
theorem stepsKeepRequestsAndTunes : Obligations.StepsKeepRequestsAndTunes :=
  ⟨fun _ _ falls ok => step_keeps_requestsOk falls ok, fun _ _ falls requests tunes =>
    (requestsAndTunes_steps.keeps falls (fun _ _ known => known) trivial ⟨requests, tunes⟩).2⟩

end Sys2Proof.Proofs

/-! Every step keeps every calendar as long as a cycle length, with no assigned slot that serves nobody (O57). -/

namespace Sys2Proof.Proofs

open Sys2Proof.Machine Sys2Proof.Safety

/-! ### Cycle lengths and served slots -/

theorem cycleLength_iff (n : Nat) : CycleLength n ↔ isPeriod n = true := by
  simp [CycleLength, isPeriod, or_assoc]

/-- A slot that is idle or serves somebody. -/
def Served (slot : Slot) : Prop := ∀ profile step, slot ≠ .assigned profile step []

theorem slotsOk_iff (slots : List Slot) :
    SlotsOk slots ↔ CycleLength slots.length ∧ ∀ slot ∈ slots, Served slot :=
  and_congr_right fun _ =>
    ⟨fun none _ here profile step same => none profile step (same ▸ here),
      fun served profile step here => served _ here profile step rfl⟩

theorem served_idle : Served .idle := nofun

theorem served_without (pair : Subscriber) (slot : Slot) : Served (slot.without pair) := by
  unfold Slot.without
  split
  · exact served_idle
  · split
    · exact served_idle
    · rename_i nonempty
      intro p i same
      injection same with _ _ empty
      exact nonempty empty

theorem served_cleaned (s : State) (slot : Slot) : Served (slot.cleaned s) := by
  unfold Slot.cleaned
  split
  · exact served_idle
  · split
    · exact served_idle
    · rename_i nonempty
      intro p i same
      injection same with _ _ empty
      exact nonempty empty

theorem served_withSubscriber (profile : Fin 16) (step : Nat) (pair : Subscriber) (slot : Slot) :
    Served (slot.withSubscriber profile step pair) := by
  intro p i same
  cases slot <;> simp [Slot.withSubscriber] at same

theorem slotsOk_map {slots : List Slot} (ok : SlotsOk slots) {f : Slot → Slot}
    (served : ∀ slot, Served (f slot)) : SlotsOk (slots.map f) := by
  rw [slotsOk_iff] at ok ⊢
  refine ⟨by rw [List.length_map]; exact ok.1, fun slot here => ?_⟩
  obtain ⟨old, -, rfl⟩ := List.mem_map.mp here
  exact served old

/-! ### What a build makes (R46, R47, R50) -/

theorem mem_modify {α : Type} {l : List α} {n : Nat} {f : α → α} {x : α} (here : x ∈ l.modify n f) :
    x ∈ l ∨ ∃ y, x = f y := by
  obtain ⟨i, at'⟩ := List.mem_iff_getElem?.mp here
  rw [List.getElem?_modify] at at'
  obtain ⟨y, old, value⟩ := Option.map_eq_some_iff.mp at'
  split at value
  · exact .inr ⟨y, value.symm⟩
  · exact .inl (value ▸ List.mem_of_getElem? old)

theorem served_placeAt {slots : List Slot} (served : ∀ slot ∈ slots, Served slot) (c : Candidate)
    (phase : Nat) : ∀ slot ∈ placeAt slots c phase, Served slot := by
  refine List.foldlRecOn (motive := fun acc : List Slot => ∀ slot ∈ acc, Served slot) _ _ served ?_
  intro acc served place _ slot here
  rcases mem_modify here with old | ⟨old, rfl⟩
  · exact served slot old
  · exact served_withSubscriber _ _ _ _

theorem placeCandidate_slots (sh : Shadow) (c : Candidate) :
    (placeCandidate sh c).slots = sh.slots ∨ ∃ phase, (placeCandidate sh c).slots = placeAt sh.slots c phase := by
  unfold placeCandidate
  split
  · exact .inr ⟨_, rfl⟩
  · exact .inl rfl

theorem buildLength_cycleLength {candidates : List Candidate}
    (periods : ∀ c ∈ candidates, isPeriod c.period = true) : CycleLength (buildLength candidates) := by
  refine List.foldlRecOn (motive := CycleLength) candidates _ (by simp [CycleLength]) fun n length c here => ?_
  rcases max_choice n c.period with same | same <;> rw [same]
  · exact length
  · exact (cycleLength_iff _).mpr (periods c here)

theorem slotsOk_buildShadow {candidates : List Candidate}
    (periods : ∀ c ∈ candidates, isPeriod c.period = true) : SlotsOk (buildShadow candidates).slots := by
  rw [slotsOk_iff]
  have built : (buildShadow candidates).slots.length = buildLength candidates ∧
      ∀ slot ∈ (buildShadow candidates).slots, Served slot := by
    refine List.foldlRecOn (motive := fun sh : Shadow => sh.slots.length = buildLength candidates ∧
      ∀ slot ∈ sh.slots, Served slot) _ _ ⟨List.length_replicate, fun slot here => ?_⟩ ?_
    · rw [List.eq_of_mem_replicate here]
      exact served_idle
    · intro sh ⟨length, served⟩ c _
      rcases placeCandidate_slots sh c with same | ⟨phase, same⟩ <;> rw [same]
      · exact ⟨length, served⟩
      · exact ⟨(length_placeAt ..).trans length, served_placeAt served c phase⟩
  exact ⟨built.1 ▸ buildLength_cycleLength periods, built.2⟩

/-! ### The Calendar, step by step -/

/-- A builder whose shadow and snapshot have their form. -/
structure BuilderOk (b : Builder) : Prop where
  shadow : ∀ sh, b = .ready sh → SlotsOk sh.slots
  snapshot : ∀ snap stale left, b = .building snap stale left → ∀ c ∈ snap, isPeriod c.period = true

theorem calendarOk_iff (s : State) :
    CalendarOk s ↔ SlotsOk s.calendar.active ∧ BuilderOk s.calendar.builder ∧
      ∀ r ∈ s.requests.table, isPeriod r.period = true :=
  ⟨fun ⟨active, shadow, snapshot, periods⟩ => ⟨active, ⟨shadow, snapshot⟩, periods⟩,
    fun ⟨active, ⟨shadow, snapshot⟩, periods⟩ => ⟨active, shadow, snapshot, periods⟩⟩

theorem builderOk_idle : BuilderOk .idle := ⟨nofun, nofun⟩

theorem builderOk_building {snap : List Candidate} (periods : ∀ c ∈ snap, isPeriod c.period = true)
    (stale : Bool) (left : Nat) : BuilderOk (.building snap stale left) :=
  ⟨nofun, fun _ _ _ same => by cases same; exact periods⟩

theorem snapshot_periods {s : State} (periods : ∀ r ∈ s.requests.table, isPeriod r.period = true) :
    ∀ c ∈ snapshot s, isPeriod c.period = true := by
  intro c here
  obtain ⟨r, inTable, rfl⟩ := List.mem_map.mp here
  exact periods r (List.mem_of_mem_filter inTable)

theorem builderOk_triggered {s : State} {b : Builder} (ok : BuilderOk b)
    (periods : ∀ r ∈ s.requests.table, isPeriod r.period = true) : BuilderOk (triggered b s) := by
  unfold triggered
  split
  · exact builderOk_building (ok.snapshot _ _ _ rfl) _ _
  · exact builderOk_building (snapshot_periods periods) _ _

/-- The requests change, but no period of the table that was not there before. -/
theorem calendarOk_of_periods {s t : State} (ok : CalendarOk s) (calendar : t.calendar = s.calendar)
    (periods : ∀ r ∈ t.requests.table, ∃ q ∈ s.requests.table, q.period = r.period) : CalendarOk t := by
  rw [calendarOk_iff] at ok ⊢
  rw [calendar]
  refine ⟨ok.1, ok.2.1, fun r here => ?_⟩
  obtain ⟨q, old, same⟩ := periods r here
  exact same ▸ ok.2.2 q old

theorem calendarOk_same {s t : State} (ok : CalendarOk s) (calendar : t.calendar = s.calendar)
    (requests : t.requests.table = s.requests.table) : CalendarOk t :=
  calendarOk_of_periods ok calendar fun r here => ⟨r, requests ▸ here, rfl⟩

theorem calendarOk_update {s : State} (ok : CalendarOk s) (h : HostId) (tag : Nat) {f : Request → Request}
    (kept : ∀ q, (f q).period = q.period) : CalendarOk (s.updateRequest h tag f) := by
  refine calendarOk_of_periods ok rfl fun r here => ?_
  obtain ⟨q, old, rfl⟩ := List.mem_map.mp here
  refine ⟨q, old, ?_⟩
  split
  · exact (kept q).symm
  · rfl

theorem calendarOk_builder {s : State} (ok : CalendarOk s) {b : Builder} (builder : BuilderOk b) :
    CalendarOk { s with calendar.builder := b } := by
  rw [calendarOk_iff] at ok ⊢
  exact ⟨ok.1, builder, ok.2.2⟩

theorem calendarOk_active {s : State} (ok : CalendarOk s) {active : List Slot} (slots : SlotsOk active)
    (generation : BitVec 16) :
    CalendarOk { s with calendar := { s.calendar with active := active, generation := generation } } := by
  rw [calendarOk_iff] at ok ⊢
  exact ⟨slots, ok.2.1, ok.2.2⟩

theorem calendarOk_leaveCalendar {s : State} (ok : CalendarOk s) (r : Request) : CalendarOk (leaveCalendar r s) := by
  rw [leaveCalendar_eq]
  split
  · exact calendarOk_active ok (slotsOk_map ok.active (served_without _)) s.calendar.generation
  · exact ok

theorem abortTune_calendar (id : Fin 16) (s : State) : (abortTune id s).calendar = s.calendar := by
  rcases SameTables.abortTune_cases id s with ⟨same, -⟩ | ⟨p, loop, -, -, -, same⟩
  · exact same.calendar
  · exact same.calendar

theorem tellLeft_calendar (r : Request) (s : State) : (tellLeft r s).calendar = s.calendar := by
  unfold tellLeft
  split
  · exact abortTune_calendar ..
  · rfl

theorem lowerReference_calendar (id : Fin 16) (s : State) : (lowerReference id s).calendar = s.calendar := by
  unfold lowerReference
  split
  · rfl
  · split <;> rfl

theorem raiseReference_calendar (id : Fin 16) (s : State) : (raiseReference id s).calendar = s.calendar := by
  unfold raiseReference
  split <;> rfl

theorem calendarOk_abortTune {s : State} (ok : CalendarOk s) (id : Fin 16) : CalendarOk (abortTune id s) :=
  calendarOk_same ok (abortTune_calendar id s) (by rw [abortTune_requests])

theorem calendarOk_tellLeft {s : State} (ok : CalendarOk s) (r : Request) : CalendarOk (tellLeft r s) :=
  calendarOk_same ok (tellLeft_calendar r s) (by rw [tellLeft_requests])

theorem calendarOk_leave {s : State} (ok : CalendarOk s) (r : Request) :
    CalendarOk (tellLeft r (freeEntry r s)) := by
  refine calendarOk_tellLeft (calendarOk_of_periods (calendarOk_leaveCalendar ok r) ?_ fun q here => ?_) r
  · rw [freeEntry, clearEntry, lowerReference_calendar]
    rfl
  · rw [freeEntry_table] at here
    rw [leaveCalendar_requests]
    exact ⟨q, List.mem_of_mem_filter here, rfl⟩

theorem calendarOk_postNotice {s : State} (ok : CalendarOk s) (h : HostId) (n : Notice) :
    CalendarOk (postNotice h n s) :=
  calendarOk_same ok (SameTables.postNotice ..).calendar (by rw [(SameTables.postNotice ..).requests])

theorem calendarOk_trigger {s : State} (ok : CalendarOk s) : CalendarOk (trigger s) := by
  rw [trigger_eq]
  obtain ⟨-, builder, periods⟩ := (calendarOk_iff s).mp ok
  exact calendarOk_builder ok (builderOk_triggered builder periods)

theorem calendarOk_setSwapStates {s : State} (ok : CalendarOk s) (placed : List Placed) :
    CalendarOk (setSwapStates placed s) := by
  refine List.foldlRecOn (motive := CalendarOk) _ _ (List.foldlRecOn (motive := CalendarOk) _ _ ok ?_)
    fun t ok id _ => calendarOk_abortTune ok id
  intro t ok r _
  have same := setSwapState_tables placed t r
  refine calendarOk_same (s := t.updateRequest r.owner r.tag _) (calendarOk_update ok _ _ ?_) same.calendar
    (by rw [same.requests])
  exact fun _ => rfl

theorem calendarOk_swap {s : State} (ok : CalendarOk s) {sh : Shadow}
    (ready : s.calendar.builder = .ready sh) : CalendarOk (swap sh s) := by
  have states := calendarOk_setSwapStates (calendarOk_active ok
    (slotsOk_map (ok.shadow sh ready) (served_cleaned s)) (s.calendar.generation + 1)) sh.placed
  unfold swap
  dsimp only
  generalize setSwapStates _ _ = u at states ⊢
  exact calendarOk_same (calendarOk_builder states builderOk_idle) (SameTables.postToAll ..).calendar
    (by rw [(SameTables.postToAll ..).requests])

theorem calendarOk_suspend {s : State} (ok : CalendarOk s) (r : Request) : CalendarOk (suspend r s) := by
  refine calendarOk_tellLeft (calendarOk_postNotice ?_ _ _) r
  refine calendarOk_update (calendarOk_leaveCalendar ok r) _ _ ?_
  exact fun _ => rfl

theorem calendarOk_rule : TableRule CalendarOk where
  same ok same := calendarOk_same ok same.calendar (by rw [same.requests])
  acknowledge s h tag ok := calendarOk_update ok h tag fun _ => rfl
  charge s h tag r found ok := by
    refine calendarOk_of_periods ok rfl fun q here => ?_
    obtain ⟨x, old, rfl⟩ := List.mem_map.mp here
    split
    · exact ⟨r, request_mem found, rfl⟩
    · exact ⟨x, old, rfl⟩
  suspend s r _ ok := calendarOk_suspend ok r
  count s h tag r count done _ _ _ ok := calendarOk_update ok h tag fun _ => rfl
  leave s r _ ok := calendarOk_leave ok r
  judged s id p e g m _ _ _ ok := calendarOk_same ok rfl rfl
  trigger s ok := calendarOk_trigger ok
  swap s sh ready ok := calendarOk_swap ok ready

theorem detachProfile_calendar (h : HostId) (s : State) (id : Fin 16) :
    (detachProfile h s id).calendar = s.calendar := by
  rcases detachProfile_cases h s id with ⟨same, -⟩ | ⟨p, -, -, ⟨-, -, same⟩ | ⟨-, same⟩⟩ <;> exact same.calendar

theorem calendarOk_steps : TableSteps (fun _ => True) CalendarOk where
  toTableRule := calendarOk_rule
  resume s h tag r _ _ ok := calendarOk_update ok _ _ fun _ => rfl
  submitted s h args a p read _ _ _ _ _ _ ok := by
    refine calendarOk_trigger ?_
    rw [calendarOk_iff] at ok ⊢
    rw [raiseReference_calendar, raiseReference_requests]
    refine ⟨ok.1, ok.2.1, fun r here => ?_⟩
    rw [List.mem_append, List.mem_singleton] at here
    rcases here with old | rfl
    · exact ok.2.2 r old
    · exact (requestOk_admitted read h _).period
  create s h id width height _ _ ok := calendarOk_same ok rfl rfl
  edit s h id p q _ _ _ ok := calendarOk_same ok rfl rfl
  quota s g q _ _ _ _ ok := calendarOk_same ok rfl rfl
  freed s h ok := by
    refine calendarOk_rule.rebuildIfWaiting _ ?_
    exact TableRule.foldl_flag _ _ (fun acc r ok => calendarOk_leave ok r) ok
  orphans s h d _ _ _ ok :=
    List.foldlRecOn (motive := CalendarOk) allProfileIds _ (calendarOk_same ok rfl rfl) fun t ok id _ =>
      calendarOk_same ok (detachProfile_calendar h t id) (by rw [detachProfile_requests])
  beginBuild s ok := calendarOk_builder ok (builderOk_building (snapshot_periods ok.periods) _ _)
  ready s snap stale left building ok :=
    calendarOk_builder ok
      ⟨fun sh same => by cases same; exact slotsOk_buildShadow (ok.snapshot snap stale left building), nofun⟩
  time s ok := by
    refine calendarOk_builder ok ?_
    obtain ⟨-, builder, -⟩ := (calendarOk_iff s).mp ok
    cases on : s.calendar.builder with
    | building snap stale left => exact builderOk_building (ok.snapshot snap stale left on) _ _
    | idle => exact builderOk_idle
    | ready sh => exact ⟨fun x same => builder.shadow x (on.trans same), nofun⟩
  reset := (calendarOk_iff _).mpr
    ⟨(slotsOk_iff _).mpr ⟨by simp [CycleLength, State.reset], fun slot here => by
      rw [List.mem_singleton.mp here]
      exact served_idle⟩, builderOk_idle, nofun⟩

/-- Settles O57: a removal and a clean-up leave no slot empty, and a build is as long as its largest period. -/
theorem stepsKeepTheCalendar : Obligations.StepsKeepTheCalendar := fun _ _ falls ok =>
  calendarOk_steps.keeps falls (fun _ _ known => known) trivial ok

end Sys2Proof.Proofs

/-! Every step keeps the quotas within the tables and every host within its quotas (O59). -/

namespace Sys2Proof.Proofs

open Sys2Proof.Machine Sys2Proof.Safety

/-! ### What a host holds -/

/-- The entry holds a LIVE profile of the host. -/
def ownsProfile (s : State) (h : HostId) (id : Fin 16) : Bool := (s.profile id).any fun p => p.life == .live h

theorem ownsProfile_iff {s : State} {h : HostId} {id : Fin 16} :
    ownsProfile s h id = true ↔ ∃ p, s.profile id = some p ∧ p.life = .live h := by
  simp [ownsProfile, Option.any_eq_true]

theorem profilesOwned_eq (s : State) (h : HostId) :
    s.profilesOwned h = (allProfileIds.filter (ownsProfile s h)).length := by
  rw [State.profilesOwned, ← List.countP_eq_length_filter]
  refine List.countP_congr fun id _ => ?_
  unfold ownsProfile
  cases s.profile id <;> simp

theorem profilesOwned_le {s t : State} {h : HostId}
    (fewer : ∀ id, ownsProfile t h id = true → ownsProfile s h id = true) :
    t.profilesOwned h ≤ s.profilesOwned h := by
  rw [profilesOwned_eq, profilesOwned_eq]
  exact (List.monotone_filter_right _ fun id => fewer id).length_le

/-- One entry more can be the host's. -/
theorem profilesOwned_succ {s t : State} {h : HostId} {id : Fin 16}
    (others : ∀ j, j ≠ id → ownsProfile t h j = true → ownsProfile s h j = true) :
    t.profilesOwned h ≤ s.profilesOwned h + 1 := by
  rw [profilesOwned_eq, profilesOwned_eq]
  have distinct : (allProfileIds.filter (ownsProfile t h)).Nodup := (List.nodup_finRange 16).filter _
  have subset : allProfileIds.filter (ownsProfile t h) ⊆ id :: allProfileIds.filter (ownsProfile s h) := by
    intro j here
    obtain ⟨known, owns⟩ := List.mem_filter.mp here
    by_cases same : j = id
    · exact same ▸ List.mem_cons_self ..
    · exact List.mem_cons_of_mem _ (List.mem_filter.mpr ⟨known, others j same owns⟩)
  exact (distinct.subperm subset).length_le

theorem length_requestsOf (s : State) (h : HostId) :
    (s.requestsOf h).length = s.requests.table.countP fun r => r.owner == h := by
  rw [State.requestsOf, List.countP_eq_length_filter]

/-- A change of a request that keeps its owner. -/
theorem length_requestsOf_update (s : State) (h : HostId) (tag : Nat) {f : Request → Request}
    (kept : ∀ q, q.owner = h → (f q).owner = h) (g : HostId) :
    ((s.updateRequest h tag f).requestsOf g).length = (s.requestsOf g).length := by
  rw [length_requestsOf, length_requestsOf, State.updateRequest, State.setTable_table, List.countP_map]
  refine List.countP_congr fun r _ => ?_
  dsimp only [Function.comp_apply]
  split
  · obtain ⟨owner, -⟩ := named_iff.mp ‹_›
    rw [kept r owner, owner]
  · rfl

/-! ### The quotas, step by step -/

theorem quotasOk_iff (s : State) :
    QuotasOk s ↔ quotaSum s.engine.quotas Quota.requests ≤ 32 ∧ quotaSum s.engine.quotas Quota.profiles ≤ 16 ∧
      ∀ h, (s.requestsOf h).length ≤ (s.engine.quotas.get h).requests ∧
        s.profilesOwned h ≤ (s.engine.quotas.get h).profiles := by
  have sum (part : Quota → Nat) :
      (allHosts.map fun h => part (s.engine.quotas.get h)).sum = quotaSum s.engine.quotas part := by
    simp [allHosts, quotaSum, PerHost.get]
    omega
  constructor
  · intro ⟨requests, profiles, live, owned⟩
    rw [sum] at requests profiles
    exact ⟨requests, profiles, fun h => ⟨live h, profilesOwned_eq s h ▸ owned h⟩⟩
  · intro ⟨requests, profiles, each⟩
    rw [← sum] at requests profiles
    exact ⟨requests, profiles, fun h => (each h).1, fun h => profilesOwned_eq s h ▸ (each h).2⟩

/-- No host holds more than before. -/
theorem quotasOk_of_fewer {s t : State} (ok : QuotasOk s) (quotas : t.engine.quotas = s.engine.quotas)
    (live : ∀ h, (t.requestsOf h).length ≤ (s.requestsOf h).length)
    (owned : ∀ h id, ownsProfile t h id = true → ownsProfile s h id = true) : QuotasOk t := by
  rw [quotasOk_iff] at ok ⊢
  rw [quotas]
  exact ⟨ok.1, ok.2.1, fun h =>
    ⟨(live h).trans (ok.2.2 h).1, (profilesOwned_le (owned h)).trans (ok.2.2 h).2⟩⟩

theorem quotasOk_requests {s t : State} (ok : QuotasOk s) (quotas : t.engine.quotas = s.engine.quotas)
    (profiles : t.profiles = s.profiles)
    (live : ∀ h, (t.requestsOf h).length ≤ (s.requestsOf h).length) : QuotasOk t :=
  quotasOk_of_fewer ok quotas live fun h id owns => by
    rwa [ownsProfile, State.profile, profiles] at owns

theorem quotasOk_same {s t : State} (ok : QuotasOk s) (same : SameTables s t) : QuotasOk t :=
  quotasOk_requests ok same.quotas same.profiles fun h => by
    rw [State.requestsOf, same.requests]
    rfl

theorem quotasOk_update {s : State} (ok : QuotasOk s) (h : HostId) (tag : Nat) {f : Request → Request}
    (kept : ∀ q, q.owner = h → (f q).owner = h) : QuotasOk (s.updateRequest h tag f) :=
  quotasOk_requests ok rfl rfl fun g => (length_requestsOf_update s h tag kept g).le

theorem quotasOk_setProfile {s : State} (ok : QuotasOk s) (id : Fin 16) {q : Option Profile}
    (kept : ∀ p h, q = some p → p.life = .live h → ∃ old, s.profile id = some old ∧ old.life = .live h) :
    QuotasOk (s.setProfile id q) := by
  refine quotasOk_of_fewer ok rfl (fun _ => le_refl _) fun h j owns => ?_
  obtain ⟨p, held, live⟩ := ownsProfile_iff.mp owns
  rw [State.setProfile_profile] at held
  split at held
  · rename_i same
    subst same
    exact ownsProfile_iff.mpr (kept p h held live)
  · exact ownsProfile_iff.mpr ⟨p, held, live⟩

theorem quotasOk_abortTune {s : State} (ok : QuotasOk s) (id : Fin 16) : QuotasOk (abortTune id s) := by
  rcases SameTables.abortTune_cases id s with ⟨same, -⟩ | ⟨p, loop, held, -, -, same⟩
  · exact quotasOk_same ok same
  · refine quotasOk_same (quotasOk_setProfile ok id fun q h new live => ?_) same
    cases new
    exact ⟨p, held, live⟩

theorem quotasOk_tellLeft {s : State} (ok : QuotasOk s) (r : Request) : QuotasOk (tellLeft r s) := by
  unfold tellLeft
  split
  · exact quotasOk_abortTune ok _
  · exact ok

theorem quotasOk_calendar {s : State} (ok : QuotasOk s) (c : Calendar) : QuotasOk { s with calendar := c } :=
  quotasOk_requests ok rfl rfl fun _ => le_refl _

theorem quotasOk_leaveCalendar {s : State} (ok : QuotasOk s) (r : Request) : QuotasOk (leaveCalendar r s) := by
  rw [leaveCalendar_eq]
  exact quotasOk_calendar ok _

theorem quotasOk_lowerReference {s : State} (ok : QuotasOk s) (id : Fin 16) : QuotasOk (lowerReference id s) := by
  cases held : s.profile id with
  | none => simpa [lowerReference, held] using ok
  | some p =>
    rw [lowerReference_eq held]
    refine quotasOk_setProfile ok id fun q h new live => ?_
    split at new <;> cases new
    exact ⟨p, held, live⟩

theorem quotasOk_raiseReference {s : State} (ok : QuotasOk s) (id : Fin 16) : QuotasOk (raiseReference id s) := by
  cases held : s.profile id with
  | none => simpa [raiseReference, held] using ok
  | some p =>
    rw [raiseReference_eq held]
    refine quotasOk_setProfile ok id fun q h new live => ?_
    cases new
    exact ⟨p, held, live⟩

theorem quotasOk_leave {s : State} (ok : QuotasOk s) (r : Request) : QuotasOk (tellLeft r (freeEntry r s)) := by
  have cleared : QuotasOk ((leaveCalendar r s).setTable
      ((leaveCalendar r s).requests.table.filter fun q => !q.named r.owner r.tag)) := by
    refine quotasOk_requests (quotasOk_leaveCalendar ok r) rfl rfl fun h => ?_
    rw [length_requestsOf, length_requestsOf, State.setTable_table, List.countP_filter]
    exact List.countP_mono_left fun q _ both => by simp at both; simpa using both.1
  exact quotasOk_tellLeft (quotasOk_lowerReference cleared _) r

theorem quotasOk_suspend {s : State} (ok : QuotasOk s) (r : Request) : QuotasOk (suspend r s) := by
  refine quotasOk_tellLeft (quotasOk_same ?_ (.postNotice ..)) r
  exact quotasOk_update (quotasOk_leaveCalendar ok r) _ _ fun _ owner => owner

theorem quotasOk_trigger {s : State} (ok : QuotasOk s) : QuotasOk (trigger s) := by
  rw [trigger_eq]
  exact quotasOk_calendar ok _

theorem quotasOk_rule : TableRule QuotasOk where
  same ok same := quotasOk_same ok same
  acknowledge s h tag ok := quotasOk_update ok h tag fun _ owner => owner
  charge s h tag r found ok := quotasOk_update ok h tag fun _ _ => (request_named found).1
  suspend s r _ ok := quotasOk_suspend ok r
  count s h tag r count done _ _ _ ok := quotasOk_update ok h tag fun _ owner => owner
  leave s r _ ok := quotasOk_leave ok r
  judged s id p e g m held _ _ ok := quotasOk_setProfile ok id fun q h new live => by
    cases new
    exact ⟨p, held, live⟩
  trigger s ok := quotasOk_trigger ok
  swap s sh _ ok :=
    swap_induction (P := QuotasOk) (fun ok same => quotasOk_same ok same) (fun c ok => quotasOk_calendar ok c)
      (fun h tag state ok => quotasOk_update ok h tag fun _ owner => owner)
      (fun id ok => quotasOk_abortTune ok id) sh ok

theorem quotasOk_detachProfile {s : State} (ok : QuotasOk s) (h : HostId) (id : Fin 16) :
    QuotasOk (detachProfile h s id) := by
  rcases detachProfile_cases h s id with ⟨same, -⟩ | ⟨p, held, -, ⟨-, -, same⟩ | ⟨-, same⟩⟩
  · exact quotasOk_same ok same
  · exact quotasOk_same (quotasOk_setProfile ok id fun q g new live => by cases new; cases live) same
  · exact quotasOk_same (quotasOk_setProfile ok id (q := none) nofun) same

theorem quotasOk_edit {s : State} (ok : QuotasOk s) {h : HostId} {id : Fin 16} {p : Profile}
    {q : Option Profile} (held : s.profile id = some p) (edit : Edit s h id p q) :
    QuotasOk (s.setProfile id q) :=
  quotasOk_setProfile ok id fun x g new live => by
    cases edit <;> cases new <;> exact ⟨p, held, live⟩

theorem quotasOk_admitRequest {s : State} (ok : QuotasOk s) (h : HostId) (a : SubmitArgs)
    (quota : (s.requestsOf h).length < (s.engine.quotas.get h).requests) : QuotasOk (admitRequest h a s) := by
  refine quotasOk_trigger (quotasOk_raiseReference ?_ _)
  rw [quotasOk_iff] at ok ⊢
  refine ⟨ok.1, ok.2.1, fun g => ⟨?_, (ok.2.2 g).2⟩⟩
  rw [length_requestsOf, List.countP_append, ← length_requestsOf]
  by_cases same : g = h
  · subst same
    simp [admitted]
    omega
  · have other : h ≠ g := fun equal => same equal.symm
    simpa [admitted, other] using (ok.2.2 g).1

theorem quotasOk_create {s : State} (ok : QuotasOk s) (h : HostId) (id : Fin 16) (width height : Nat)
    (quota : s.profilesOwned h < (s.engine.quotas.get h).profiles) :
    QuotasOk (s.setProfile id (some (newProfile h width height))) := by
  have others (g : HostId) (j : Fin 16) (ne : j ≠ id)
      (owns : ownsProfile (s.setProfile id (some (newProfile h width height))) g j = true) :
      ownsProfile s g j = true := by
    rwa [ownsProfile, State.setProfile_profile, if_neg ne] at owns
  rw [quotasOk_iff] at ok ⊢
  refine ⟨ok.1, ok.2.1, fun g => ⟨(ok.2.2 g).1, ?_⟩⟩
  by_cases same : g = h
  · subst same
    exact (profilesOwned_succ (others g)).trans quota
  · refine (profilesOwned_le fun j owns => ?_).trans (ok.2.2 g).2
    by_cases new : j = id
    · subst new
      obtain ⟨p, held, live⟩ := ownsProfile_iff.mp owns
      rw [State.setProfile_profile_self] at held
      cases held
      injection live with owner
      exact absurd owner.symm same
    · exact others g j new owns

theorem quotasOk_steps : TableSteps (fun _ => True) QuotasOk where
  toTableRule := quotasOk_rule
  resume s h tag r _ _ ok := quotasOk_update ok h _ fun _ owner => owner
  submitted s h args a p _ _ _ _ _ quota _ ok := quotasOk_admitRequest ok h a quota
  create s h id width height quota _ ok := quotasOk_create ok h id width height quota
  edit s h id p q held _ edit ok := quotasOk_edit ok held edit
  quota s g q requests profiles live owned ok := by
    rw [quotasOk_iff] at ok ⊢
    refine ⟨requests, profiles, fun h => ?_⟩
    dsimp only
    rw [PerHost.get_set]
    split
    · rename_i same
      subst same
      exact ⟨live, owned⟩
    · exact ok.2.2 h
  freed s h ok := by
    refine quotasOk_rule.rebuildIfWaiting _ ?_
    exact TableRule.foldl_flag _ _ (fun acc r ok => quotasOk_leave ok r) ok
  orphans s h d _ _ _ ok :=
    List.foldlRecOn (motive := QuotasOk) allProfileIds _ (quotasOk_same ok ⟨rfl, rfl, rfl, rfl⟩)
      fun t ok id _ => quotasOk_detachProfile ok h id
  beginBuild s ok := quotasOk_calendar ok _
  ready s snap stale left _ ok := quotasOk_calendar ok _
  time s ok := quotasOk_calendar ok _
  reset := (quotasOk_iff _).mpr ⟨by decide, by decide, fun h => by cases h <;> decide⟩

/-- Settles O59: only SUBMIT, CREATE_PROFILE and SET_QUOTA come nearer to a quota, and each checks it first. -/
theorem stepsKeepTheQuotas : Obligations.StepsKeepTheQuotas := fun _ _ falls ok =>
  quotasOk_steps.keeps falls (fun _ _ known => known) trivial ok

end Sys2Proof.Proofs

/-! The profiles and the requests that name them agree (R8, R23, R26, R27, R37, R39), and what a host without requests
and profiles keeps so. -/

namespace Sys2Proof.Proofs

open Sys2Proof.Machine Sys2Proof.Safety

/-! ### The table without one of its requests -/

/-- The table is one of its requests and the others, which are the table without that name. -/
theorem perm_cons_filter_named {s : State} (ok : RequestsOk s) {r : Request} (here : r ∈ s.requests.table) :
    s.requests.table.Perm (r :: s.requests.table.filter fun q => !q.named r.owner r.tag) := by
  have distinct : s.requests.table.Nodup := ok.named.imp fun {a b} other same => other ⟨by rw [same], by rw [same]⟩
  have others : (s.requests.table.filter fun q => !q.named r.owner r.tag) = s.requests.table.erase r := by
    rw [distinct.erase_eq_filter]
    refine List.filter_congr fun q inTable => ?_
    by_cases same : q = r
    · simp [same, named_self]
    · have other : ¬q.named r.owner r.tag = true := fun named =>
        same (named_unique ok inTable here (named_iff.mp named).1 (named_iff.mp named).2)
      simp [same, other]
  rw [others]
  exact List.perm_cons_erase here

theorem naming_of_table {s t : State} (same : t.requests.table = s.requests.table) (id : Fin 16) :
    naming t id = naming s id := by rw [naming, same]; rfl

theorem naming_eq_zero {s : State} {id : Fin 16} :
    naming s id = 0 ↔ ∀ r ∈ s.requests.table, r.profile ≠ id := by
  simp [naming, List.countP_eq_zero]

/-- The number of requests that name a profile falls by one where one of them leaves. -/
theorem naming_leave {s t : State} (ok : RequestsOk s) {r : Request} (here : r ∈ s.requests.table)
    (table : t.requests.table = s.requests.table.filter fun q => !q.named r.owner r.tag) (id : Fin 16) :
    naming s id = naming t id + if r.profile = id then 1 else 0 := by
  rw [naming, (perm_cons_filter_named ok here).countP_eq, List.countP_cons, naming, table]
  simp [beq_iff_eq]

/-- A change of requests that keeps the profile they name. -/
theorem naming_update {s : State} (h : HostId) (tag : Nat) {f : Request → Request}
    (kept : ∀ q ∈ s.requests.table, q.owner = h → q.tag = tag → (f q).profile = q.profile) (id : Fin 16) :
    naming (s.updateRequest h tag f) id = naming s id := by
  rw [naming, State.updateRequest, State.setTable_table, List.countP_map]
  refine List.countP_congr fun r here => ?_
  dsimp only [Function.comp_apply]
  split
  · obtain ⟨owner, name⟩ := named_iff.mp ‹_›
    rw [kept r here owner name]
  · rfl

/-! ### Profiles and requests, move by move -/

theorem profilesOk_iff {s : State} :
    ProfilesOk s ↔ (∀ id p, s.profile id = some p → ProfileOk s id p) ∧
      ∀ id, s.profile id = none → naming s id = 0 := by
  constructor
  · intro ok
    refine ⟨fun id p held => ?_, fun id absent => ?_⟩
    · have this := ok id
      rwa [held] at this
    · have this := ok id
      rwa [absent] at this
  · intro ⟨used, free⟩ id
    cases held : s.profile id with
    | none => exact free id held
    | some p => exact used id p held

/-- The requests of another table are, for a profile, requests of this one. -/
theorem profileOk_of_table {s t : State} {id : Fin 16} {p : Profile} (ok : ProfileOk s id p)
    (count : naming t id = naming s id)
    (table : ∀ r ∈ t.requests.table, r.profile = id →
      ∃ q ∈ s.requests.table, q.profile = id ∧ q.period = r.period ∧ q.owner = r.owner) : ProfileOk t id p where
  counted := count.symm ▸ ok.counted
  steps := ok.steps
  periods r here names := by
    obtain ⟨q, old, names', period, -⟩ := table r here names
    exact period ▸ ok.periods q old names'
  ownerAlone alone := by
    obtain ⟨o, live, all⟩ := ok.ownerAlone alone
    refine ⟨o, live, fun r here names => ?_⟩
    obtain ⟨q, old, names', -, owner⟩ := table r here names
    exact owner ▸ all q old names'
  orphan := ok.orphan

theorem profilesOk_of_table {s t : State} (ok : ProfilesOk s) (profiles : t.profiles = s.profiles)
    (count : ∀ id, naming t id = naming s id)
    (table : ∀ r ∈ t.requests.table, ∃ q ∈ s.requests.table,
      q.profile = r.profile ∧ q.period = r.period ∧ q.owner = r.owner) : ProfilesOk t := by
  rw [profilesOk_iff] at ok ⊢
  unfold State.profile at *
  rw [profiles]
  refine ⟨fun id p held => profileOk_of_table (ok.1 id p held) (count id) fun r here names => ?_,
    fun id absent => (count id).trans (ok.2 id absent)⟩
  obtain ⟨q, old, profile, rest⟩ := table r here
  exact ⟨q, old, profile.trans names, rest⟩

theorem profilesOk_tables {s t : State} (ok : ProfilesOk s) (profiles : t.profiles = s.profiles)
    (requests : t.requests.table = s.requests.table) : ProfilesOk t :=
  profilesOk_of_table ok profiles (naming_of_table requests) fun r here => ⟨r, requests ▸ here, rfl, rfl, rfl⟩

theorem profilesOk_same {s t : State} (ok : ProfilesOk s) (same : SameTables s t) : ProfilesOk t :=
  profilesOk_tables ok same.profiles (by rw [same.requests])

theorem profilesOk_update {s : State} (ok : ProfilesOk s) (h : HostId) (tag : Nat) {f : Request → Request}
    (kept : ∀ q ∈ s.requests.table, q.owner = h → q.tag = tag →
      (f q).profile = q.profile ∧ (f q).period = q.period ∧ (f q).owner = q.owner) :
    ProfilesOk (s.updateRequest h tag f) := by
  refine profilesOk_of_table ok rfl (naming_update h tag fun q here owner name => (kept q here owner name).1)
    fun r here => ?_
  obtain ⟨q, old, rfl⟩ := List.mem_map.mp here
  refine ⟨q, old, ?_⟩
  split
  · obtain ⟨owner, name⟩ := named_iff.mp ‹_›
    obtain ⟨profile, period, same⟩ := kept q old owner name
    exact ⟨profile.symm, period.symm, same.symm⟩
  · exact ⟨rfl, rfl, rfl⟩

/-- A change that keeps what a profile goes by in every request. -/
theorem profilesOk_rename {s : State} (ok : ProfilesOk s) (h : HostId) (tag : Nat) {f : Request → Request}
    (kept : ∀ q, (f q).profile = q.profile ∧ (f q).period = q.period ∧ (f q).owner = q.owner) :
    ProfilesOk (s.updateRequest h tag f) :=
  profilesOk_update ok h tag fun q _ _ _ => kept q

/-- An entry of the profile table replaced by one that agrees with the requests. -/
theorem profilesOk_setProfile {s : State} (ok : ProfilesOk s) (id : Fin 16) {q : Option Profile}
    (form : ∀ p, q = some p → ProfileOk s id p) (free : q = none → naming s id = 0) :
    ProfilesOk (s.setProfile id q) := by
  rw [profilesOk_iff] at ok ⊢
  refine ⟨fun j p held => ?_, fun j absent => ?_⟩
  · rw [State.setProfile_profile] at held
    split at held
    · rename_i same
      subst same
      have this := form p held
      exact ⟨this.counted, this.steps, this.periods, this.ownerAlone, this.orphan⟩
    · have this := ok.1 j p held
      exact ⟨this.counted, this.steps, this.periods, this.ownerAlone, this.orphan⟩
  · rw [State.setProfile_profile] at absent
    split at absent
    · rename_i same
      subst same
      exact free absent
    · exact ok.2 j absent

theorem profileOk_of_held {s : State} (ok : ProfilesOk s) {id : Fin 16} {p : Profile}
    (held : s.profile id = some p) : ProfileOk s id p := (profilesOk_iff.mp ok).1 id p held

/-- A profile that keeps its steps, sharing, life and references; an ORPHANED one stays in MANUAL. -/
theorem profileOk_congr {s : State} {id : Fin 16} {p q : Profile} (ok : ProfileOk s id p)
    (references : q.references = p.references) (steps : q.steps = p.steps) (sharing : q.sharing = p.sharing)
    (life : q.life = p.life) (mode : p.mode = .manual → q.mode = .manual) : ProfileOk s id q where
  counted := references.trans ok.counted
  steps := steps ▸ ok.steps
  periods := steps ▸ ok.periods
  ownerAlone := by
    rw [sharing, life]
    exact ok.ownerAlone
  orphan orphaned := by
    obtain ⟨manual, used⟩ := ok.orphan (life.symm.trans orphaned)
    exact ⟨mode manual, references ▸ used⟩

theorem profilesOk_mode {s : State} (ok : ProfilesOk s) {id : Fin 16} {p q : Profile}
    (held : s.profile id = some p) (references : q.references = p.references) (steps : q.steps = p.steps)
    (sharing : q.sharing = p.sharing) (life : q.life = p.life) (mode : p.mode = .manual → q.mode = .manual) :
    ProfilesOk (s.setProfile id (some q)) :=
  profilesOk_setProfile ok id
    (fun x new => by cases new; exact profileOk_congr (profileOk_of_held ok held) references steps sharing life mode) nofun

theorem profilesOk_abortTune {s : State} (ok : ProfilesOk s) (id : Fin 16) : ProfilesOk (abortTune id s) := by
  rcases SameTables.abortTune_cases id s with ⟨same, -⟩ | ⟨p, loop, held, -, -, same⟩
  · exact profilesOk_same ok same
  · exact profilesOk_same (profilesOk_mode ok (q := { p with mode := .manual }) held rfl rfl rfl rfl fun _ => rfl) same

theorem profilesOk_tellLeft {s : State} (ok : ProfilesOk s) (r : Request) : ProfilesOk (tellLeft r s) := by
  unfold tellLeft
  split
  · exact profilesOk_abortTune ok _
  · exact ok

theorem profilesOk_calendar {s : State} (ok : ProfilesOk s) (c : Calendar) : ProfilesOk { s with calendar := c } :=
  profilesOk_tables ok rfl rfl

theorem profilesOk_leaveCalendar {s : State} (ok : ProfilesOk s) (r : Request) : ProfilesOk (leaveCalendar r s) := by
  rw [leaveCalendar_eq]
  exact profilesOk_calendar ok _

theorem profilesOk_trigger {s : State} (ok : ProfilesOk s) : ProfilesOk (trigger s) := by
  rw [trigger_eq]
  exact profilesOk_calendar ok _

/-- The request that leaves takes its reference with it (R6, R27). -/
theorem profilesOk_clearEntry {s : State} (requests : RequestsOk s) (ok : ProfilesOk s) {r : Request}
    (here : r ∈ s.requests.table) : ProfilesOk (clearEntry r s) := by
  generalize cleared : s.setTable (s.requests.table.filter fun q => !q.named r.owner r.tag) = t
  have table : t.requests.table = s.requests.table.filter fun q => !q.named r.owner r.tag := by rw [← cleared]; rfl
  have profile (id : Fin 16) : t.profile id = s.profile id := by rw [← cleared]; rfl
  have naming := naming_leave requests here table
  have old {q : Request} (inTable : q ∈ t.requests.table) : q ∈ s.requests.table := by
    rw [table] at inTable
    exact List.mem_of_mem_filter inTable
  rw [clearEntry, cleared]
  cases held : s.profile r.profile with
  | none =>
    have none := (profilesOk_iff.mp ok).2 _ held
    exact absurd rfl (naming_eq_zero.mp none r here)
  | some p =>
    have form := profileOk_of_held ok held
    have one := naming r.profile
    rw [if_pos rfl] at one
    have less : p.references - 1 = Safety.naming t r.profile := by
      rw [form.counted]
      omega
    rw [lowerReference_eq ((profile _).trans held), profilesOk_iff]
    have other (j : Fin 16) (ne : j ≠ r.profile) : Safety.naming t j = Safety.naming s j := by
      have same := naming j
      rw [if_neg fun equal => ne equal.symm] at same
      omega
    have form' (q : Profile) (new : (if p.life = .orphaned ∧ p.references - 1 = 0 then none
        else some { p with references := p.references - 1 }) = some q) : ProfileOk t r.profile q := by
      split at new <;> cases new
      rename_i stays
      refine ⟨less, form.steps, fun x inTable => form.periods x (old inTable), fun alone => ?_, fun orphaned => ?_⟩
      · obtain ⟨o, live, all⟩ := form.ownerAlone alone
        exact ⟨o, live, fun x inTable => all x (old inTable)⟩
      · exact ⟨(form.orphan orphaned).1, fun zero => stays ⟨orphaned, zero⟩⟩
    refine ⟨fun j q new => ?_, fun j absent => ?_⟩
    · rw [State.setProfile_profile] at new
      split at new
      · rename_i same
        subst same
        exact ⟨(form' q new).counted, (form' q new).steps, (form' q new).periods, (form' q new).ownerAlone,
          (form' q new).orphan⟩
      · rename_i ne
        rw [profile] at new
        have kept := profileOk_of_table (t := t) (profileOk_of_held ok new) (other j ne)
          fun x inTable names => ⟨x, old inTable, names, rfl, rfl⟩
        exact ⟨kept.counted, kept.steps, kept.periods, kept.ownerAlone, kept.orphan⟩
    · rw [State.setProfile_profile] at absent
      change Safety.naming t j = 0
      split at absent
      · rename_i same
        subst same
        split at absent
        · rename_i gone
          rw [← less]
          exact gone.2
        · cases absent
      · rename_i ne
        rw [profile] at absent
        rw [other j ne]
        exact (profilesOk_iff.mp ok).2 j absent

theorem profilesOk_leave {s : State} (requests : RequestsOk s) (ok : ProfilesOk s) {r : Request}
    (here : r ∈ s.requests.table) : ProfilesOk (tellLeft r (freeEntry r s)) := by
  refine profilesOk_tellLeft (profilesOk_clearEntry (requestsOk_of_table requests ?_)
    (profilesOk_leaveCalendar ok r) ?_) r
  · rw [leaveCalendar_requests]
  · rw [leaveCalendar_requests]
    exact here

theorem requestsOk_setState {s : State} (ok : RequestsOk s) (h : HostId) (tag : Nat) (state : RequestState) :
    RequestsOk (s.updateRequest h tag fun q => { q with state := state }) :=
  requestsOk_update ok h tag (fun _ => ⟨rfl, rfl, rfl⟩)
    fun _ _ ⟨tag, period, phase, priority, limit, misses, burst⟩ =>
      ⟨tag, period, phase, priority, limit, misses, burst⟩

/-- The request table and the profiles together. -/
def RequestsAndProfiles (s : State) : Prop := RequestsOk s ∧ ProfilesOk s

theorem requestsAndProfiles_rule : TableRule RequestsAndProfiles where
  same ok same := ⟨requestsOk_tableRule.same ok.1 same, profilesOk_same ok.2 same⟩
  acknowledge s h tag ok :=
    ⟨requestsOk_tableRule.acknowledge s h tag ok.1,
      profilesOk_rename ok.2 h tag fun _ => ⟨rfl, rfl, rfl⟩⟩
  charge s h tag r found ok := by
    refine ⟨requestsOk_tableRule.charge s h tag r found ok.1,
      profilesOk_update ok.2 h tag fun q here owner name => ?_⟩
    obtain ⟨owner', name'⟩ := request_named found
    obtain rfl := named_unique ok.1 here (request_mem found) (owner.trans owner'.symm) (name.trans name'.symm)
    exact ⟨rfl, rfl, rfl⟩
  suspend s r _ ok := by
    refine ⟨requestsOk_suspend ok.1 r, profilesOk_tellLeft (profilesOk_same ?_ (.postNotice ..)) r⟩
    refine profilesOk_update (profilesOk_leaveCalendar ok.2 r) _ _ ?_
    exact fun _ _ _ _ => ⟨rfl, rfl, rfl⟩
  count s h tag r count done found burst ne ok :=
    ⟨requestsOk_tableRule.count s h tag r count done found burst ne ok.1,
      profilesOk_rename ok.2 h tag fun _ => ⟨rfl, rfl, rfl⟩⟩
  leave s r found ok :=
    ⟨requestsOk_tableRule.leave s r found ok.1, profilesOk_leave ok.1 ok.2 (request_mem found)⟩
  judged s id p e g m held goes stays ok :=
    ⟨requestsOk_tableRule.judged s id p e g m held goes stays ok.1,
      profilesOk_mode ok.2 held rfl rfl rfl rfl stays⟩
  trigger s ok := ⟨requestsOk_tableRule.trigger s ok.1, profilesOk_trigger ok.2⟩
  swap s sh _ ok :=
    swap_induction (P := RequestsAndProfiles)
      (fun ok same => ⟨requestsOk_tableRule.same ok.1 same, profilesOk_same ok.2 same⟩)
      (fun c ok => ⟨requestsOk_of_table ok.1 rfl, profilesOk_calendar ok.2 c⟩)
      (fun h tag state ok =>
        ⟨requestsOk_setState ok.1 h tag state, profilesOk_rename ok.2 h tag fun _ => ⟨rfl, rfl, rfl⟩⟩)
      (fun id ok => ⟨requestsOk_abortTune ok.1 id, profilesOk_abortTune ok.2 id⟩) sh ok

/-! ### The commands -/

theorem profilesOk_admitRequest {s : State} (ok : ProfilesOk s) {h : HostId} {a : SubmitArgs} {p : Profile}
    (held : s.profile a.profile = some p) (usable : p.usableBy h = true) (fits : p.steps.length ≤ a.period) :
    ProfilesOk (admitRequest h a s) := by
  unfold admitRequest
  dsimp only
  generalize nextSequence s.requests = n
  refine profilesOk_trigger ?_
  rw [raiseReference_eq (p := p) (by exact held), profilesOk_iff]
  have form := profileOk_of_held ok held
  have count (id : Fin 16) :
      (s.requests.table ++ [admitted h a n]).countP (fun r => r.profile == id) =
        naming s id + if a.profile = id then 1 else 0 := by
    rw [List.countP_append, List.countP_singleton]
    simp [naming, admitted]
  refine ⟨fun j q new => ?_, fun j absent => ?_⟩
  · rw [State.setProfile_profile] at new
    split at new
    · rename_i same
      subst same
      cases new
      refine ⟨?_, form.steps, fun r here names => ?_, fun alone => ?_, fun orphaned => ?_⟩
      · change p.references + 1 = _
        rw [form.counted]
        exact ((count a.profile).trans (by rw [if_pos rfl])).symm
      · rcases List.mem_append.mp here with old | new
        · exact form.periods r old names
        · rw [List.mem_singleton.mp new]
          exact fits
      · obtain ⟨o, live, all⟩ := form.ownerAlone alone
        refine ⟨o, live, fun r here names => ?_⟩
        rcases List.mem_append.mp here with old | new
        · exact all r old names
        · rw [List.mem_singleton.mp new]
          have mine : o = h := by
            have notShared : p.sharing = .ownerOnly := alone
            simpa [Profile.usableBy, show p.life = .live o from live, notShared] using usable
          exact mine.symm
      · have orphaned : p.life = .orphaned := orphaned
        simp [Profile.usableBy, orphaned] at usable
    · rename_i ne
      have old := profileOk_of_held ok (id := j) (p := q) new
      refine ⟨old.counted.trans ?_, old.steps, fun r here names => ?_, fun alone => ?_, old.orphan⟩
      · exact ((count j).trans (by rw [if_neg fun same => ne same.symm]; rfl)).symm
      · rcases List.mem_append.mp here with inTable | new
        · exact old.periods r inTable names
        · rw [List.mem_singleton.mp new] at names
          exact absurd names.symm ne
      · obtain ⟨o, live, all⟩ := old.ownerAlone alone
        refine ⟨o, live, fun r here names => ?_⟩
        rcases List.mem_append.mp here with inTable | new
        · exact all r inTable names
        · rw [List.mem_singleton.mp new] at names
          exact absurd names.symm ne
  · rw [State.setProfile_profile] at absent
    split at absent
    · cases absent
    · rename_i ne
      refine (count j).trans ?_
      rw [if_neg fun same => ne same.symm]
      exact (profilesOk_iff.mp ok).2 j absent

/-- A profile that no request names. -/
theorem profileOk_unused {s : State} {id : Fin 16} {p : Profile} (unused : naming s id = 0)
    (references : p.references = 0) (steps : 1 ≤ p.steps.length ∧ p.steps.length ≤ 4) {o : HostId}
    (life : p.life = .live o) : ProfileOk s id p where
  counted := references.trans unused.symm
  steps := steps
  periods r here names := absurd names (naming_eq_zero.mp unused r here)
  ownerAlone _ := ⟨o, life, fun r here names => absurd names (naming_eq_zero.mp unused r here)⟩
  orphan orphaned := by
    rw [life] at orphaned
    cases orphaned

theorem profilesOk_edit {s : State} (ok : ProfilesOk s) {h : HostId} {id : Fin 16} {p : Profile}
    {q : Option Profile} (held : s.profile id = some p) (owner : p.life = .live h) (edit : Edit s h id p q) :
    ProfilesOk (s.setProfile id q) := by
  have form := profileOk_of_held ok held
  cases edit with
  | delete unused => exact profilesOk_setProfile ok id nofun fun _ => form.counted ▸ unused
  | exposure | limits | target | window => exact profilesOk_mode ok held rfl rfl rfl rfl fun manual => manual
  | steps steps count fits =>
    refine profilesOk_setProfile ok id (fun x new => ?_) nofun
    cases new
    refine ⟨form.counted, count, fun r here names => ?_, form.ownerAlone, form.orphan⟩
    rcases fits with same | unused
    · exact same ▸ form.periods r here names
    · exact absurd names (naming_eq_zero.mp (form.counted ▸ unused) r here)
  | sharing sharing alone =>
    refine profilesOk_setProfile ok id (fun x new => ?_) nofun
    cases new
    refine ⟨form.counted, form.steps, form.periods, fun only => ⟨h, owner, fun r here names => ?_⟩, form.orphan⟩
    cases was : p.sharing with
    | ownerOnly =>
      obtain ⟨o, live, all⟩ := form.ownerAlone was
      rw [owner] at live
      cases live
      exact all r here names
    | shared =>
      have none := alone only was
      by_contra other
      refine absurd none (Bool.not_eq_false _ ▸ ?_)
      exact List.any_eq_true.mpr ⟨r, here, by simp [names, other]⟩
  | mode | tune =>
    refine profilesOk_setProfile ok id (fun x new => ?_) nofun
    cases new
    refine ⟨form.counted, form.steps, form.periods, form.ownerAlone, fun orphaned => ?_⟩
    rw [show p.life = .orphaned from orphaned] at owner
    cases owner

theorem profilesOk_create {s : State} (ok : ProfilesOk s) {id : Fin 16} (free : s.profile id = none) (h : HostId)
    (width height : Nat) : ProfilesOk (s.setProfile id (some (newProfile h width height))) := by
  refine profilesOk_setProfile ok id (fun x new => ?_) nofun
  cases new
  exact profileOk_unused ((profilesOk_iff.mp ok).2 id free) rfl ⟨le_refl 1, Nat.le_add_left 1 3⟩ rfl

/-- The profiles of a host without requests leave or are orphaned one after another (R38). -/
theorem profilesOk_detachProfile {s : State} {h : HostId} (bare : noRequest s h) (ok : ProfilesOk s)
    (id : Fin 16) : ProfilesOk (detachProfile h s id) := by
  rcases detachProfile_cases h s id with ⟨same, -⟩ | ⟨p, held, live, ⟨shared, used, same⟩ | ⟨unused, same⟩⟩
  · exact profilesOk_same ok same
  · refine profilesOk_same ?_ same
    refine profilesOk_setProfile ok id (fun x new => ?_) nofun
    cases new
    have form := profileOk_of_held ok held
    refine ⟨form.counted, form.steps, form.periods, fun only => ?_, fun _ => ⟨rfl, used⟩⟩
    rw [show p.sharing = .ownerOnly from only] at shared
    cases shared
  · refine profilesOk_same (profilesOk_setProfile ok id (q := none) nofun fun _ => ?_) same
    have form := profileOk_of_held ok held
    by_cases zero : p.references = 0
    · exact form.counted ▸ zero
    · have only : p.sharing = .ownerOnly := by
        cases sharing : p.sharing with
        | ownerOnly => rfl
        | shared => exact absurd ⟨sharing, zero⟩ unused
      obtain ⟨o, life, all⟩ := form.ownerAlone only
      rw [live] at life
      cases life
      refine naming_eq_zero.mpr fun r here names => ?_
      have mine : r ∈ s.requestsOf h := List.mem_filter.mpr ⟨here, by simpa using all r here names⟩
      rw [show s.requestsOf h = [] from bare] at mine
      cases mine

theorem noRequest_of_table {s t : State} {h : HostId} (bare : noRequest s h)
    (same : t.requests.table = s.requests.table) : noRequest t h := by
  rw [noRequest, State.requestsOf, same]
  exact bare

theorem profilesOk_detachProfiles {s : State} {h : HostId} (bare : noRequest s h) (ok : ProfilesOk s)
    (ids : List (Fin 16)) : ProfilesOk (ids.foldl (detachProfile h) s) := by
  induction ids generalizing s with
  | nil => exact ok
  | cons id rest ih =>
    exact ih (noRequest_of_table bare (by rw [detachProfile_requests])) (profilesOk_detachProfile bare ok id)

/-- A host whose detach has come to its profiles has no request left (R149). -/
def OrphansBare (s : State) : Prop :=
  ∀ h d, (s.port h).detaching = some d → d.next = .profiles → noRequest s h

theorem profile_reset (id : Fin 16) : State.reset.profile id = none := by simp [State.profile, State.reset]

theorem requestsAndProfiles_reset : RequestsAndProfiles State.reset := by
  refine ⟨requestsOk_steps.reset, profilesOk_iff.mpr ⟨fun id p held => ?_, fun id _ => rfl⟩⟩
  rw [profile_reset] at held
  cases held

theorem requestsAndProfiles_orphans {s : State} {h : HostId} {d : Detach} (bare : noRequest s h)
    (ok : RequestsAndProfiles s) :
    RequestsAndProfiles (allProfileIds.foldl (detachProfile h) (stepped s h d .records)) := by
  have requests : RequestsOk (stepped s h d .records) := requestsOk_of_table ok.1 rfl
  have profiles : ProfilesOk (stepped s h d .records) := profilesOk_tables ok.2 rfl rfl
  have bare : noRequest (stepped s h d .records) h := bare
  generalize stepped s h d .records = t at requests profiles bare ⊢
  exact ⟨requestsOk_of_table requests (by rw [detachProfiles_requests]), profilesOk_detachProfiles bare profiles _⟩

theorem requestsAndProfiles_steps : TableSteps OrphansBare RequestsAndProfiles where
  toTableRule := requestsAndProfiles_rule
  resume s h tag r found suspended ok :=
    ⟨requestsOk_steps.resume s h tag r found suspended ok.1,
      profilesOk_rename ok.2 h _ fun _ => ⟨rfl, rfl, rfl⟩⟩
  submitted _ _ _ _ _ read fresh held usable fits _ room ok :=
    ⟨requestsOk_admitRequest ok.1 read fresh room, profilesOk_admitRequest ok.2 held usable fits⟩
  create _ h _ width height _ free ok := ⟨requestsOk_of_table ok.1 rfl, profilesOk_create ok.2 free h width height⟩
  edit _ _ _ _ _ held owner edit ok := ⟨requestsOk_of_table ok.1 rfl, profilesOk_edit ok.2 held owner edit⟩
  quota _ _ _ _ _ _ _ ok := ⟨requestsOk_of_table ok.1 rfl, profilesOk_tables ok.2 rfl rfl⟩
  freed _ h ok := requestsAndProfiles_rule.freeRequestsOf (fun _ ok => ok.1) h ok
  orphans _ h d busy next known ok := requestsAndProfiles_orphans (known h d busy next) ok
  beginBuild _ ok := ⟨requestsOk_of_table ok.1 rfl, profilesOk_tables ok.2 rfl rfl⟩
  ready _ _ _ _ _ ok := ⟨requestsOk_of_table ok.1 rfl, profilesOk_tables ok.2 rfl rfl⟩
  time _ ok := ⟨requestsOk_of_table ok.1 rfl, profilesOk_tables ok.2 rfl rfl⟩
  reset := requestsAndProfiles_reset

end Sys2Proof.Proofs

/-! The step, power-on, and the frames of the port transactions (R141 to R147, R160). -/

namespace Sys2Proof.Proofs

open Sys2Proof.Machine Sys2Proof.Safety

/-! ### The step, time and power-on -/

/-- Settles O1: the definition of the step on a queue that is not empty. -/
theorem stepRunsTheCommandAtTheFront : Obligations.StepRunsTheCommandAtTheFront := by
  intro c rest s queue
  rw [step, queue]

theorem tick_port (s : State) (h : HostId) : (tick s).port h = (s.port h).tick := by cases h <;> rfl

/-- Settles O3: the three rows of the idle step. -/
theorem timePassesOnAnEmptyQueue : Obligations.TimePassesOnAnEmptyQueue := by
  intro s queue
  have idles : step s = idle s := by rw [step, queue]
  refine ⟨fun held => ?_, fun free => ⟨fun i due => ?_, fun quiet waits => ?_, fun quiet runs => ?_⟩⟩
  · simp [idles, idle, held]
  · simp [idles, idle, free, due]
  · simp [idles, idle, free, quiet, waits]
  · refine ⟨tick s, by simp [idles, idle, free, quiet, runs], rfl, rfl, rfl, rfl, rfl, rfl, rfl, rfl, rfl, rfl, rfl,
      rfl, rfl, rfl, rfl, fun h => ?_⟩
    rw [tick_port]
    exact ⟨rfl, rfl⟩

/-- Settles O4: the values of `State.reset`, and the two happenings at the RESET pin. -/
theorem powerOnPutsEveryBlockInItsState : Obligations.PowerOnPutsEveryBlockInItsState := by
  refine ⟨⟨fun h => ?_, rfl, rfl, fun id => ?_, rfl, rfl, rfl, rfl, rfl, rfl, rfl, rfl, rfl, rfl, rfl, rfl, rfl, rfl,
    rfl, fun k => ?_, rfl, rfl, rfl, rfl, rfl, rfl, rfl, rfl⟩, fun s => ⟨rfl, rfl⟩⟩
  · cases h <;> exact ⟨rfl, rfl, rfl, rfl, rfl, rfl, rfl, rfl⟩
  · simp [State.profile, State.reset]
  · cases k <;> exact ⟨rfl, rfl⟩

/-! ### The codes of the commands and the command frame (Tables 9-1, 9-4) -/

theorem ofByte_toByte (c : CommandCode) : CommandCode.ofByte c.toByte = some c := by cases c <;> rfl

/-- No byte but a command's own code names it. -/
theorem ofByte_eq_some {b : Byte} {c : CommandCode} : CommandCode.ofByte b = some c ↔ c.toByte = b := by
  constructor
  · revert b c
    decide +revert
  · rintro rfl
    exact ofByte_toByte c

theorem ofByte_eq_none {b : Byte} : CommandCode.ofByte b = none ↔ ∀ c : CommandCode, c.toByte ≠ b := by
  rw [Option.eq_none_iff_forall_ne_some]
  exact forall_congr' fun c => not_congr ofByte_eq_some

theorem toNat_length {args : List Byte} (short : args.length ≤ 32) :
    (BitVec.ofNat 8 args.length).toNat = args.length := by
  rw [BitVec.toNat_ofNat]
  exact Nat.mod_eq_of_lt (by omega)

theorem decodeFrame_encodeFrame (c : CommandCode) {args : List Byte} (short : args.length ≤ 32) :
    decodeFrame (encodeFrame c args) = .ok (c, args) := by
  simp [encodeFrame, decodeFrame, toNat_length short, short, ofByte_toByte]

/-- A frame with a sound length is read by its code. -/
theorem decodeFrame_sound {code n : Byte} {args : List Byte} (short : n.toNat ≤ 32) (same : args.length = n.toNat) :
    decodeFrame (code :: n :: args) =
      (CommandCode.ofByte code).elim (.error .unknownCommand) fun c => .ok (c, args) := by
  rw [decodeFrame, if_pos ⟨short, same⟩]
  cases CommandCode.ofByte code <;> rfl

/-- A frame without a sound length is refused, whatever its code. -/
theorem decodeFrame_badLength {frame : List Byte}
    (bad : ∀ code n args, frame = code :: n :: args → n.toNat ≤ 32 → args.length ≠ n.toNat) :
    decodeFrame frame = .error .badLength := by
  match frame with
  | [] => rfl
  | [_] => rfl
  | code :: n :: args => rw [decodeFrame, if_neg fun sound => bad code n args rfl sound.1 sound.2]

theorem decodeFrame_ok {frame : List Byte} {c : CommandCode} {args : List Byte}
    (read : decodeFrame frame = .ok (c, args)) : frame = encodeFrame c args ∧ args.length ≤ 32 := by
  match frame with
  | [] => cases read
  | [_] => cases read
  | code :: n :: rest =>
    by_cases sound : n.toNat ≤ 32 ∧ rest.length = n.toNat
    · obtain ⟨short, same⟩ := sound
      rw [decodeFrame_sound short same] at read
      cases known : CommandCode.ofByte code with
      | none =>
        rw [known] at read
        cases read
      | some d =>
        rw [known] at read
        cases read
        refine ⟨?_, by omega⟩
        rw [encodeFrame, ofByte_eq_some.mp known, same, BitVec.ofNat_toNat, BitVec.setWidth_eq]
    · rw [decodeFrame, if_neg sound] at read
      cases read

/-- Settles O5: both ways between a command and its frame. -/
theorem commandFramesDecodeToWhatWasSent : Obligations.CommandFramesDecodeToWhatWasSent :=
  ⟨fun c _ short => decodeFrame_encodeFrame c short, fun _ _ _ => decodeFrame_ok⟩

/-! ### Transactions (R141 to R147) -/

theorem zerosFor_eq (received : List Byte) : zerosFor received = received.map fun _ => 0x00 := List.map_const'.symm

/-- The rise of select of a command transaction whose buffer is PENDING. -/
theorem takeFrame_pending {s : State} {h : HostId} (pending : (s.port h).buffer.isPending = true) (frame : List Byte) :
    takeFrame h frame s = s.setPort h { s.port h with discarded := true } := by
  rw [takeFrame, if_pos pending]

theorem takeFrame_free {s : State} {h : HostId} (free : (s.port h).buffer.isPending = false) (frame : List Byte) :
    takeFrame h frame s =
      checkFrame h (s.port h).nextSerial frame
        (s.setPort h
          { s.port h with
            buffer := .pending (s.port h).nextSerial, nextSerial := (s.port h).nextSerial + 1 }) := by
  rw [takeFrame, if_neg (by simp [free])]

theorem restartClaim_eq_claim (h : HostId) (s : State) :
    restartClaim h s =
      { s with
        engine :=
          { s.engine with
            claim :=
              if s.holdsClaim h then some { holder := h, timer := s.engine.claimExpiry * 1000 }
              else s.engine.claim } } := by
  rw [restartClaim]
  split <;> rfl

theorem needsNoAttach_iff {c : CommandCode} : needsNoAttach c = true ↔ c = .attach ∨ c = .getStatus := by
  cases c <;> decide

/-- Settles O6: the three moments of a command transaction, the rise of select by the buffer and by the frame. -/
theorem commandTransactionIsDiscardedAnsweredOrHandedOn :
    Obligations.CommandTransactionIsDiscardedAnsweredOrHandedOn := by
  intro h s
  refine ⟨fun status opened => ?_, fun frame received open' => ?_, fun frame open' => ?_⟩
  · simp [exec, execCommandTransaction, opened, shiftOut]
  · simp [exec, execCommandTransaction, open', shiftOut, zerosFor_eq]
  · have rises : exec (.commandTransaction h .rises) s = .next (takeFrame h frame (selectRises h s)) := by
      simp [exec, execCommandTransaction, open']
    refine ⟨fun pending => ?_, fun free => ?_⟩
    · rw [rises, takeFrame_pending (by simpa [selectRises] using pending)]
      simp [selectRises]
    · rw [rises, takeFrame_free (by simpa [selectRises] using free)]
      refine ⟨fun bad => ?_, fun code n args shape short same => ⟨fun unknown => ?_, fun c known => ⟨?_, ?_⟩⟩⟩
      · simp [checkFrame, decodeFrame_badLength bad, selectRises, sendAnswer, Response.refusal, answerTime]
      · subst shape
        simp [checkFrame, decodeFrame_sound short same, ofByte_eq_none.mpr unknown, selectRises, sendAnswer,
          Response.refusal, answerTime]
      · rintro ⟨detached, notAttach, notStatus⟩
        have needs : needsNoAttach c = false := by
          rw [← Bool.not_eq_true, needsNoAttach_iff]
          exact not_or.mpr ⟨notAttach, notStatus⟩
        subst shape
        simp [checkFrame, decodeFrame_sound short same, ofByte_eq_some.mpr known, selectRises, sendAnswer,
          Response.refusal, answerTime, detached, needs]
      · intro takes
        have passes : ((s.port h).attached || needsNoAttach c) = true := by
          rw [Bool.or_eq_true, needsNoAttach_iff]
          exact takes
        subst shape
        simp [checkFrame, decodeFrame_sound short same, ofByte_eq_some.mpr known, selectRises, handOn,
          restartClaim_eq_claim, answerTime, passes]
        rfl

end Sys2Proof.Proofs

/-! The response buffer and its transactions, the status byte, and the commands that a port takes itself (R141, R142,
R146 to R151, R153 to R159). -/

namespace Sys2Proof.Proofs

open Sys2Proof.Machine Sys2Proof.Safety

/-! ### Response reads and status polls (R141, R146) -/

/-- The row is one of the three by which a transaction comes to the port (R141). -/
def TransactionRow (h : HostId) (row : Moment → Instr) : Prop :=
  row = .commandTransaction h ∨ row = .responseRead h ∨ ∃ d, row = .statusPoll h d

/-- The moments that are the same whatever the transaction is. -/
theorem exec_common {h : HostId} {row : Moment → Instr} (isRow : TransactionRow h row) {m : Moment} {s : State}
    (common : m = .falls ∨ (s.port h).select = some .ignored ∨ (s.port h).select = some .abandoned ∨
      (m = .rises ∧ ∃ status, (s.port h).select = some (.opened status))) :
    exec (row m) s = .next (commonMoment h m s) := by
  rcases common with rfl | stage | stage | ⟨rfl, status, stage⟩
  · rcases isRow with rfl | rfl | ⟨d, rfl⟩ <;> rfl
  all_goals
    rcases isRow with rfl | rfl | ⟨d, rfl⟩ <;>
      simp [exec, execCommandTransaction, execResponseRead, execStatusPoll, stage]

theorem responseTaken_ready {p : Port} {r : Response} (ready : p.buffer = .ready r) :
    p.responseTaken = { p with buffer := .empty, discarded := false } := by
  rw [Port.responseTaken, ready]
  rfl

theorem responseTaken_unready {p : Port} (unready : p.buffer.isReady = false) : p.responseTaken = p := by
  rw [Port.responseTaken, unready]
  rfl

/-- The end of the direction byte of a response read. -/
theorem responseRead_direction {h : HostId} {s : State} {status : Byte}
    (opened : (s.port h).select = some (.opened status)) :
    exec (.responseRead h .direction) s =
      .next
        (s.setPort h
          { (s.port h).responseTaken with
            select := some (.response (s.port h).buffer.readFrame)
            shiftedOut := (s.port h).shiftedOut ++ [status] }) := by
  have out : (s.port h).responseTaken.shiftedOut = (s.port h).shiftedOut := by
    rw [Port.responseTaken]
    split <;> rfl
  simp [exec, execResponseRead, opened, shiftOut, out]

/-- A response read by the state of the buffer, and a status poll. -/
theorem readsAndPolls (h : HostId) (s : State) :
    let p := s.port h
    (∀ status, p.select = some (.opened status) →
      let answered := fun (q : Port) (frame : List Byte) =>
        s.setPort h
          { q with select := some (.response frame), shiftedOut := p.shiftedOut ++ [status] }
      (p.buffer = .empty →
        exec (.responseRead h .direction) s = .next (answered p [0x03, 0x00])) ∧
      (∀ n, p.buffer = .pending n ∨ p.buffer = .pendingDetach →
        exec (.responseRead h .direction) s = .next (answered p [0x02, 0x00])) ∧
      (∀ r, p.buffer = .ready r →
        exec (.responseRead h .direction) s =
          .next
            (answered { p with buffer := .empty, discarded := false }
              (r.status.toByte :: BitVec.ofNat 8 r.results.length :: r.results))) ∧
      (∀ direction : Byte, direction ≠ 0x01 → direction ≠ 0x02 →
        exec (.statusPoll h direction .direction) s =
          .next
            (s.setPort h { p with select := some .poll, shiftedOut := p.shiftedOut ++ [status] }))) := by
  refine fun status opened => ⟨fun empty => ?_, fun n pending => ?_, fun r ready => ?_, fun direction one two => ?_⟩
  · rw [responseRead_direction opened, responseTaken_unready (by rw [empty]; rfl), empty]
    rfl
  · rw [responseRead_direction opened]
    rcases pending with pending | pending <;>
      rw [responseTaken_unready (by rw [pending]; rfl), pending] <;> rfl
  · rw [responseRead_direction opened, responseTaken_ready ready, ready]
    rfl
  · simp only [BitVec.ofNat_eq_ofNat] at one two
    simp [exec, execStatusPoll, opened, one, two, shiftOut]

/-- Settles O7: the reads and polls, the moments common to every transaction, and the arrival of an answer. -/
theorem transactionsFollowTheResponseBuffer : Obligations.TransactionsFollowTheResponseBuffer := by
  refine ⟨fun h s => ⟨readsAndPolls h s, fun frame responding => ⟨fun received => ?_, ?_⟩, fun polling direction =>
    ⟨fun received => ?_, ?_⟩⟩, fun h row s isRow => ⟨fun none => ?_, fun ignored => ?_, fun abandoned => ?_,
    fun status opened => ?_⟩, fun h a rest s oldest => ?_⟩
  · simp [exec, execResponseRead, responding, shiftOut, clocked]
  · simp [exec, execResponseRead, responding, selectRises]
  · simp [exec, execStatusPoll, polling, shiftOut, zerosFor_eq]
  · simp [exec, execStatusPoll, polling, selectRises]
  · rw [exec_common isRow (.inl rfl)]
    simp only [commonMoment, none, selectFalls, takesTransactions]
    refine ⟨fun high => ?_, fun low => ?_⟩
    · obtain ⟨reset, hrst⟩ := not_or.mp high
      simp [reset, hrst]
    · rcases low with low | low <;> simp [low]
  · refine ⟨?_, fun received => ?_, ?_⟩ <;>
      rw [exec_common isRow (.inr (.inl ignored))] <;> simp [commonMoment, ignored, selectRises]
  · refine ⟨?_, fun received => ?_, ?_⟩ <;>
      rw [exec_common isRow (.inr (.inr (.inl abandoned)))] <;>
      simp [commonMoment, abandoned, selectRises, shiftOut, zerosFor_eq]
  · rw [exec_common isRow (.inr (.inr (.inr ⟨rfl, status, opened⟩)))]
    simp [commonMoment, opened, selectRises]
  · refine ⟨fun waits => ?_, fun other => ?_⟩
    · simp [exec, execCommandAnswer, oldest, deliverAnswer, waits]
    · simp [exec, execCommandAnswer, oldest, deliverAnswer, other]

/-! ### The status byte and the attention line (R142, R158) -/

/-- The bits of a byte made of eight flags. -/
theorem getLsbD_flags (b0 b1 b2 b3 b4 b5 b6 b7 : Bool) :
    let b := BitVec.ofNat 8
      (bit 0 b0 + bit 1 b1 + bit 2 b2 + bit 3 b3 + bit 4 b4 + bit 5 b5 + bit 6 b6 + bit 7 b7)
    b.getLsbD 0 = b0 ∧ b.getLsbD 1 = b1 ∧ b.getLsbD 2 = b2 ∧ b.getLsbD 3 = b3 ∧ b.getLsbD 4 = b4 ∧
      b.getLsbD 5 = b5 ∧ b.getLsbD 6 = b6 ∧ b.getLsbD 7 = b7 := by
  revert b0 b1 b2 b3 b4 b5 b6 b7
  decide

theorem isReady_iff {b : Buffer} : b.isReady = true ↔ ∃ r, b = .ready r := by
  cases b <;> simp [Buffer.isReady]

theorem isPending_iff {b : Buffer} : b.isPending = true ↔ (∃ n, b = .pending n) ∨ b = .pendingDetach := by
  cases b <;> simp [Buffer.isPending]

theorem holdsClaim_iff {s : State} {h : HostId} :
    s.holdsClaim h = true ↔ ∃ c, s.engine.claim = some c ∧ c.holder = h := by
  rw [State.holdsClaim]
  cases s.engine.claim <;> simp

theorem not_isEmpty_iff {α : Type} {l : List α} : (!l.isEmpty) = true ↔ l ≠ [] := by cases l <;> simp

/-- Settles O8: the eight flags of the status byte and the three conditions of the attention line. -/
theorem statusByteAndAttentionLineShowThePort : Obligations.StatusByteAndAttentionLineShowThePort := by
  constructor
  · intro s h
    obtain ⟨b0, b1, b2, b3, b4, b5, b6, b7⟩ :=
      getLsbD_flags (s.port h).buffer.isReady (s.port h).buffer.isPending (!(s.port h).notices.isEmpty)
        (!(s.mailbox h).queue.isEmpty) (s.port h).discarded (s.port h).attached (s.holdsClaim h)
        (s.engine.state == .halted)
    refine ⟨b0 ▸ isReady_iff, b1 ▸ isPending_iff, b2 ▸ not_isEmpty_iff, b3 ▸ not_isEmpty_iff, b4 ▸ Iff.rfl,
      b5 ▸ Iff.rfl, b6 ▸ holdsClaim_iff, b7 ▸ beq_iff_eq, fun both => ?_⟩
    obtain ⟨ready, pending⟩ := both
    obtain ⟨r, isReady⟩ := isReady_iff.mp (b0.symm.trans ready)
    have isPending := b1.symm.trans pending
    rw [isReady] at isPending
    cases isPending
  · intro s h
    simp only [atn, Bool.or_eq_true, Bool.and_eq_true, not_isEmpty_iff, isReady_iff, or_assoc]
    rfl

end Sys2Proof.Proofs

/-! The commands that a port takes itself, and the steps of a detach that leave the tables alone (R148 to R151, R153 to
R159). -/

namespace Sys2Proof.Proofs

open Sys2Proof.Machine Sys2Proof.Safety

/-! ### ATTACH and DETACH (R148 to R151) -/

/-- Settles O9: ATTACH by its arguments and the state of the port. -/
theorem attachMakesThePortAttached : Obligations.AttachMakesThePortAttached := by
  intro h cmd s waits fresh
  have runs : exec (.attach h) s = .next ((attachPort h cmd (taken s h .attach)).finish h cmd) :=
    congrArg _ (takeCommand_some waits _)
  refine ⟨fun bare detached => ?_, fun more => ?_, fun bare attached => ?_⟩
  · simp [runs, attachPort, fresh, bare, detached, beBytes_one]
  · simp [runs, attachPort, fresh, noArgs_ne more]
  · simp [runs, attachPort, fresh, bare, attached]

theorem abandon_eq (select : Option Transfer) :
    select.map Transfer.abandon =
      (match select with
        | none => none
        | some .ignored => some .ignored
        | some _ => some .abandoned) := by
  rcases select with _ | t
  · rfl
  · cases t <;> rfl

/-- Settles O10: DETACH, the pulse by whether a detach is under way, and the release. -/
theorem detachBegins : Obligations.DetachBegins := by
  intro h s p abandoned
  have stage : (s.port h).select.map Transfer.abandon = abandoned := abandon_eq _
  refine ⟨fun cmd takes bare => ?_, fun running high quiet => ?_, fun d running high busy => ?_, rfl⟩
  · have runs : exec (.detach h) s = .next ((detachPort h cmd (taken s h .detach)).finish h cmd) :=
      congrArg _ (takeCommand_takes takes _)
    simp [p, runs, detachPort, bare, portDetach, taken, detachTime]
  · change (s.port h).hrstLow = false at high
    change (s.port h).detaching = none at quiet
    simp only [p, exec, execHrstPulse, running, high, quiet, Bool.or_self, Bool.false_eq_true, if_false, portDetach,
      State.setPort_port_self, State.setPort_setPort, stage, detachTime]
  · change (s.port h).hrstLow = false at high
    change (s.port h).detaching = some d at busy
    simp only [p, exec, execHrstPulse, running, high, busy, Bool.or_self, Bool.false_eq_true, if_false, stage]

/-! ### The last steps of a detach (R126, R139, R149, R163) -/

theorem detachStep_due {h : HostId} {d : Detach} {s : State} (under : (s.port h).detaching = some d)
    (next : DetachStep) (run : State → State) :
    detachStep d.next next h run s =
      run (s.setPort h { s.port h with detaching := some { d with next := next } }) := by
  simp [detachStep, under]

/-- The work that waits at the link once the direct commands of a host have been dropped (R126). -/
def waitingWithout (h : HostId) (waiting : Option WaitingWork) : Option WaitingWork :=
  match waiting with
  | some (.direct c) => if c.port = h then none else some (.direct c)
  | w => w

theorem waitingWithout_eq (h : HostId) (waiting : Option WaitingWork) :
    waitingWithout h waiting =
      (match waiting with
        | some (.direct c) => if c.port = h then none else waiting
        | w => w) := by
  rcases waiting with _ | (r | c) <;> rfl

theorem waiting_self {s : State} {w : Option WaitingWork} (same : s.link.waiting = w) :
    { s with link := { s.link with waiting := w } } = s := by
  subst same
  rfl

theorem dropWaitingDirect_eq (h : HostId) (s : State) :
    dropWaitingDirect h s = { s with link := { s.link with waiting := waitingWithout h s.link.waiting } } := by
  rw [dropWaitingDirect]
  split
  · rename_i c waits
    by_cases mine : c.port = h
    · simp [waits, waitingWithout, mine]
    · rw [if_neg mine, waits, waitingWithout, if_neg mine, waiting_self waits]
  · rename_i other
    have stays : waitingWithout h s.link.waiting = s.link.waiting := by
      rw [waitingWithout]
      · exact other
    rw [stays]

/-- Step 5 of a detach that is due. -/
theorem detachEndDirectCommand_due {h : HostId} {d : Detach} {s : State} (under : (s.port h).detaching = some d)
    (due : d.next = .direct) :
    exec (.detachEndDirectCommand h) s =
      .next
        (endDirect h
          { s.setPort h { s.port h with detaching := some { d with next := .claim } } with
            link := { s.link with waiting := waitingWithout h s.link.waiting } }) := by
  show Host.Outcome.next (detachStep .direct .claim h _ s) = _
  rw [← due, detachStep_due under, dropWaitingDirect_eq]
  rfl

/-- Step 5 of a detach by the work of the link. -/
theorem detachEndDirectCommand_by_work (h : HostId) (d : Detach) (s : State) (under : (s.port h).detaching = some d)
    (due : d.next = .direct) :
    let s1 := s.setPort h { s.port h with detaching := some { d with next := .claim } }
    let waiting := waitingWithout h s.link.waiting
    (∀ w t, s.link.state = .direct w → w.command.port = h → w.bus = some t →
      exec (.detachEndDirectCommand h) s =
        .next
          { s1 with
            link := { s.link with state := .draining { bus := t, records := none }, waiting := waiting } }) ∧
    (∀ w, s.link.state = .direct w → w.command.port = h → w.bus = none → waiting = none →
      exec (.detachEndDirectCommand h) s =
        .next { s1 with link := { s.link with state := .idle, waiting := none } }) ∧
    ((∀ w, s.link.state = .direct w → w.command.port ≠ h) →
      exec (.detachEndDirectCommand h) s = .next { s1 with link := { s.link with waiting := waiting } }) := by
  intro s1 waiting
  refine ⟨fun w t busy mine onBus => ?_, fun w busy mine off free => ?_, fun others => ?_⟩ <;>
    rw [detachEndDirectCommand_due under due]
  · simp only [endDirect, busy, mine, if_true, onBus]
    rfl
  · simp only [endDirect, busy, mine, if_true, off]
    have free' : waitingWithout h s.link.waiting = none := free
    rw [free']
    rfl
  · cases work : s.link.state with
    | direct w => simp only [endDirect, work, others w work, if_false]; rfl
    | idle => simp only [endDirect, work]; rfl
    | setup w => simp only [endDirect, work]; rfl
    | draining w => simp only [endDirect, work]; rfl

/-- Settles O13: the steps 4, 5 and 6 of a detach, the fifth by the work of the link. -/
theorem detachEndsTheHostsOtherHoldings : Obligations.DetachEndsTheHostsOtherHoldings := by
  refine ⟨fun h d s under => ⟨fun due => ?_, fun due => ?_⟩, fun h d s under due => ?_⟩
  · show Host.Outcome.next (detachStep .records .direct h _ s) = _
    rw [← due, detachStep_due under]
    rfl
  · simp only [exec, execDetachFreeClaim, under, due, if_true, freeClaim, State.setPort_holdsClaim]
    cases d.answers <;> rfl
  · intro s1 waiting
    have waits : waitingWithout h s.link.waiting = waiting := waitingWithout_eq ..
    rw [← waits]
    exact detachEndDirectCommand_by_work h d s under due

/-! ### GET_STATUS (R153) -/

theorem attachedByte (b : Bool) : BitVec.ofNat 8 (bit 0 b) = if b then 1 else 0 := by cases b <;> rfl

/-- The byte of the engine state, as R153 lists it. -/
def engineStateCode : EngineState → Byte
  | .stopped => 0
  | .running => 1
  | .stopping => 2
  | .halted => 3

theorem engineStateByte (e : EngineState) : BitVec.ofNat 8 e.code = engineStateCode e := by cases e <;> rfl

/-- The byte of the fault code, as R153 lists it. -/
def faultCodeByte : FaultCode → Byte
  | .none => 0
  | .sensorLink => 1
  | .sensorStall => 2

theorem faultByte (f : FaultCode) : BitVec.ofNat 8 f.code = faultCodeByte f := by cases f <;> rfl

/-- Settles O14: GET_STATUS handed on in both attach states, and its nineteen bytes. -/
theorem getStatusAnswersItsNineteenBytes : Obligations.GetStatusAnswersItsNineteenBytes := by
  refine ⟨fun h n args s stage short same free => ?_, fun h cmd s waits => ?_⟩
  · obtain ⟨-, -, rises⟩ := commandTransactionIsDiscardedAnsweredOrHandedOn h s
    obtain ⟨-, taken⟩ := rises _ stage
    obtain ⟨-, sound⟩ := taken free
    obtain ⟨-, known⟩ := sound _ _ _ rfl short same
    obtain ⟨-, handed⟩ := known .getStatus rfl
    refine ⟨_, handed (.inr (.inr rfl)), ?_⟩
    simp [State.port, State.setPort]
  · have runs : exec (.getStatus h) s = .next ((getStatus h cmd (taken s h .getStatus)).finish h cmd) :=
      congrArg _ (takeCommand_some waits _)
    refine ⟨fun more => ?_, fun bare => ?_⟩
    · simp [runs, getStatus, noArgs_ne more]
    · simp only [runs, getStatus, bare, noArgs_nil, ifRange_some, finish_accept]
      refine congrArg (fun results => Host.Outcome.next (answering h cmd .ok results (taken s h .getStatus))) ?_
      have port : (taken s h .getStatus).port h =
          { s.port h with handed := (s.port h).handed.eraseP fun x => x.code == .getStatus } :=
        State.setPort_port_self ..
      simp only [statusResults, beBytes_one, port, taken_engine, taken_mailbox, taken_sequencer, engineStateByte,
        faultByte, attachedByte]
      rcases s.engine.claim with _ | c <;> rfl

/-! ### Notices and the attention mask (R154 to R156, R159) -/

theorem maskArg_eq_some {args : List Byte} {n : Nat} :
    maskArg args = some n ↔ ∃ mask : Byte, args = [mask] ∧ mask.toNat ≤ 7 ∧ mask.toNat = n := by
  match args with
  | [] => simp [maskArg, guardSome]
  | [mask] => simp [maskArg, guardSome, field, beNat]
  | _ :: _ :: _ => simp [maskArg, guardSome]

/-- A queue without NOTICE_LOST ends in another notice, or is empty. -/
theorem joinNotice_without_lost {queue : List Notice} (kept : ∀ m ∈ queue, m.kind ≠ .noticeLost) (n : Notice) :
    joinNotice queue n =
      queue ++ [if queue.length + 1 < 16 then n else { kind := .noticeLost, subject := 1, detail := 0 }] := by
  rcases List.eq_nil_or_concat queue with rfl | ⟨front, last, rfl⟩
  · rfl
  · rw [List.concat_eq_append] at kept ⊢
    rw [joinNotice_kept (kept last (by simp)), List.length_append, List.length_singleton]

/-- Settles O15: GET_NOTICE by the queue, SET_ATTENTION by its argument, and the rows of the table of R154. -/
theorem noticesArePostedAndTaken : Obligations.NoticesArePostedAndTaken := by
  refine ⟨fun h cmd s => ⟨fun takes => ?_, fun takes => ?_⟩, fun h n s => ⟨fun off => ?_, fun on kept short => ?_,
    fun on kept full => ?_, fun front lost on ends isLost => ?_⟩⟩
  · have runs : exec (.getNotice h) s = .next ((getNotice h cmd (taken s h .getNotice)).finish h cmd) :=
      congrArg _ (takeCommand_takes takes _)
    refine ⟨fun more => ?_, fun bare quiet => ?_, fun n rest bare queue => ?_⟩
    · simp [runs, getNotice, noArgs_ne more]
    · simp [runs, getNotice, bare, quiet]
    · simp [runs, getNotice, bare, queue, noticeResults, beBytes_one]
  · have runs : exec (.setAttention h) s = .next ((setAttention h cmd (taken s h .setAttention)).finish h cmd) :=
      congrArg _ (takeCommand_takes takes _)
    refine ⟨fun mask bare low => ?_, fun high => ?_⟩
    · simp [runs, setAttention, maskArg_eq_some.mpr ⟨mask, bare, low, rfl⟩]
    · have bad : maskArg cmd.args = none := Option.eq_none_iff_forall_ne_some.mpr fun m read => by
        obtain ⟨mask, bare, low, -⟩ := maskArg_eq_some.mp read
        exact absurd low (high mask bare).not_ge
      simp [runs, setAttention, bad]
  · rw [postNotice_eq, posted, if_neg (by simp [off]), State.setPort_self]
  · rw [postNotice_eq, posted, if_pos on, joinNotice_without_lost kept, if_pos (by omega)]
  · rw [postNotice_eq, posted, if_pos on, joinNotice_without_lost kept, if_neg (by omega)]
  · rw [postNotice_eq, posted, if_pos on, ends, joinNotice_lost isLost]
    rfl

end Sys2Proof.Proofs

/-! The argument bytes of the commands: a run of fields laid one behind another, and the fields read back (0.6). -/

namespace Sys2Proof.Proofs

open Sys2Proof.Machine Sys2Proof.Safety

/-! ### Numbers and their bytes (0.6) -/

theorem beNat_foldl (bytes : List Byte) (n : Nat) :
    bytes.foldl (fun n b => n * 256 + b.toNat) n = n * 256 ^ bytes.length + beNat bytes := by
  induction bytes generalizing n with
  | nil => simp [beNat]
  | cons b bytes ih =>
    rw [beNat, List.foldl_cons, List.foldl_cons, ih, ih (0 * 256 + b.toNat), List.length_cons, Nat.pow_succ]
    ring

theorem beNat_cons (b : Byte) (bytes : List Byte) :
    beNat (b :: bytes) = b.toNat * 256 ^ bytes.length + beNat bytes := by
  rw [beNat, List.foldl_cons, beNat_foldl, Nat.zero_mul, Nat.zero_add]

theorem beNat_beBytes_mod (n v : Nat) : beNat (beBytes n v) = v % 256 ^ n := by
  induction n with
  | zero => simp [beBytes, beNat, Nat.mod_one]
  | succ n ih =>
    rw [beBytes, beNat_cons, ih, length_beBytes, BitVec.toNat_ofNat, Nat.pow_succ 256, Nat.mod_mul, Nat.mul_comm,
      Nat.add_comm]

/-- The bytes of a number that fits in them spell it. -/
theorem beNat_beBytes {n v : Nat} (fits : v < 256 ^ n) : beNat (beBytes n v) = v := by
  rw [beNat_beBytes_mod, Nat.mod_eq_of_lt fits]

theorem beBytes_add_mul (n v k : Nat) : beBytes n (k * 256 ^ n + v) = beBytes n v := by
  induction n generalizing k with
  | zero => rfl
  | succ n ih =>
    have high : (k * 256 ^ (n + 1) + v) / 256 ^ n = k * 256 + v / 256 ^ n := by
      rw [Nat.pow_succ, show k * (256 ^ n * 256) + v = v + 256 ^ n * (k * 256) by ring,
        Nat.add_mul_div_left _ _ (by positivity), Nat.add_comm]
    rw [beBytes, beBytes, high, show k * 256 ^ (n + 1) + v = k * 256 * 256 ^ n + v by ring, ih]
    congr 1
    apply BitVec.eq_of_toNat_eq
    simp [Nat.add_mod]

/-- The number that bytes spell has those bytes. -/
theorem beBytes_beNat (bytes : List Byte) : beBytes bytes.length (beNat bytes) = bytes := by
  induction bytes with
  | nil => rfl
  | cons b bytes ih =>
    rw [List.length_cons, beBytes, beNat_cons, beBytes_add_mul, ih,
      Nat.add_comm, Nat.add_mul_div_right _ _ (by positivity), Nat.div_eq_of_lt (beNat_lt bytes), Nat.zero_add,
      BitVec.ofNat_toNat, BitVec.setWidth_eq]

/-! ### Fields laid one behind another -/

/-- The bytes of fields, each given by its width and its value. -/
@[simp] def laid : List (Nat × Nat) → List Byte
  | [] => []
  | (width, value) :: rest => beBytes width value ++ laid rest

/-- The number of bytes that fields take. -/
@[simp] def widths : List (Nat × Nat) → Nat
  | [] => 0
  | (width, _) :: rest => width + widths rest

/-- The fields from a byte on have the values given. -/
@[simp] def Reads (args : List Byte) : Nat → List (Nat × Nat) → Prop
  | _, [] => True
  | start, (width, value) :: rest => field args start width = value ∧ Reads args (start + width) rest

/-- Every value fits in its width. -/
@[simp] def FieldsFit : List (Nat × Nat) → Prop
  | [] => True
  | (width, value) :: rest => value < 256 ^ width ∧ FieldsFit rest

theorem drop_eq_field {args : List Byte} {start width : Nat} (long : start + width ≤ args.length) :
    args.drop start = beBytes width (field args start width) ++ args.drop (start + width) := by
  have short : ((args.drop start).take width).length = width := by
    rw [List.length_take, List.length_drop]
    omega
  have bytes := beBytes_beNat ((args.drop start).take width)
  rw [short] at bytes
  rw [field, bytes, ← List.drop_drop, List.take_append_drop]

theorem drop_eq_laid {args : List Byte} {parts : List (Nat × Nat)} {start : Nat}
    (length : args.length = start + widths parts) (reads : Reads args start parts) :
    args.drop start = laid parts := by
  induction parts generalizing start with
  | nil =>
    rw [laid, List.drop_eq_nil_iff, length]
    exact le_refl _
  | cons part rest ih =>
    obtain ⟨width, value⟩ := part
    obtain ⟨here, behind⟩ := reads
    rw [widths] at length
    rw [drop_eq_field (width := width) (by omega), here, ih (by omega) behind]
    rfl

/-- Arguments of the right length are the bytes of the fields read from them. -/
theorem eq_laid {args : List Byte} {parts : List (Nat × Nat)} (length : args.length = widths parts)
    (reads : Reads args 0 parts) : args = laid parts :=
  drop_eq_laid (by rw [length, Nat.zero_add]) reads

theorem length_laid (parts : List (Nat × Nat)) : (laid parts).length = widths parts := by
  induction parts with
  | nil => rfl
  | cons part rest ih => rw [laid, List.length_append, length_beBytes, ih]; rfl

theorem field_append (front behind : List Byte) (start width : Nat) :
    field (front ++ behind) (front.length + start) width = field behind start width := by
  rw [field, field, List.drop_append, List.drop_eq_nil_of_le (Nat.le_add_right ..), List.nil_append,
    Nat.add_sub_cancel_left]

theorem field_beBytes_append {width value : Nat} (fits : value < 256 ^ width) (behind : List Byte) :
    field (beBytes width value ++ behind) 0 width = value := by
  rw [field, List.drop_zero, List.take_left' (length_beBytes ..), beNat_beBytes fits]

theorem reads_append {front : List Byte} {parts : List (Nat × Nat)} (fits : FieldsFit parts) (start : Nat)
    (length : front.length = start) (behind : List Byte) : Reads (front ++ (laid parts ++ behind)) start parts := by
  induction parts generalizing front start with
  | nil => trivial
  | cons part rest ih =>
    obtain ⟨width, value⟩ := part
    obtain ⟨here, others⟩ := fits
    subst length
    refine ⟨?_, ?_⟩
    · rw [laid, List.append_assoc]
      exact (field_append front _ 0 width).trans (field_beBytes_append here _)
    · rw [laid, List.append_assoc, ← List.append_assoc]
      exact ih others _ (by rw [List.length_append, length_beBytes])

/-- Fields that fit are read back from their bytes. -/
theorem reads_laid {parts : List (Nat × Nat)} (fits : FieldsFit parts) : Reads (laid parts) 0 parts := by
  simpa using reads_append (front := []) fits 0 rfl []

/-- Arguments are the bytes of fields that fit exactly where they have their length and are read as them. -/
theorem eq_laid_iff {args : List Byte} {parts : List (Nat × Nat)} (fits : FieldsFit parts) :
    args = laid parts ↔ args.length = widths parts ∧ Reads args 0 parts := by
  constructor
  · rintro rfl
    exact ⟨length_laid parts, reads_laid fits⟩
  · rintro ⟨length, reads⟩
    exact eq_laid length reads

/-! ### The readers' own tests -/

theorem guardSome_eq_some {α : Type} {c : Bool} {a b : α} : guardSome c a = some b ↔ c = true ∧ a = b := by
  cases c <;> simp [guardSome]

theorem asProfileId_eq_some {n : Nat} {id : Fin 16} : asProfileId n = some id ↔ n = id.val := by
  rw [asProfileId]
  split
  · rw [Option.some.injEq]
    exact ⟨fun same => congrArg Fin.val same, fun same => Fin.ext same⟩
  · rename_i big
    constructor
    · nofun
    · rintro rfl
      exact absurd id.isLt big

theorem asHost_eq_some {n : Nat} {g : HostId} : asHost n = some g ↔ n = g.number := by
  constructor
  · intro read
    match n with
    | 0 | 1 | 2 | 3 => cases read; rfl
    | n + 4 => cases read
  · rintro rfl
    cases g <;> rfl

end Sys2Proof.Proofs

/-! The readers of the command arguments: each reads its fields, and nothing else (Tables 1-3 and 10-1 and the rules of
the commands). -/

namespace Sys2Proof.Proofs

open Sys2Proof.Machine Sys2Proof.Safety

/-- Bytes of fields within ranges are those that have their length and are read as the fields. -/
theorem laid_and_iff {args : List Byte} (parts : List (Nat × Nat)) {ranges : Prop} (fits : ranges → FieldsFit parts) :
    args = laid parts ∧ ranges ↔ (args.length = widths parts ∧ Reads args 0 parts) ∧ ranges :=
  and_congr_left fun within => eq_laid_iff (fits within)

theorem asProfileId_cases (n : Nat) :
    (asProfileId n = none ∧ 16 ≤ n) ∨ ∃ id : Fin 16, asProfileId n = some id ∧ n = id.val := by
  cases read : asProfileId n with
  | none =>
    refine .inl ⟨rfl, not_lt.mp fun small => ?_⟩
    rw [asProfileId, dif_pos small] at read
    cases read
  | some id => exact .inr ⟨id, rfl, asProfileId_eq_some.mp read⟩

/-! ### The commands that name a profile -/

section

variable (args : List Byte) (id : Fin 16)

theorem profileArg_iff : profileArg args = some id ↔ args = beBytes 1 id.val := by
  have small := id.isLt
  have layout := eq_laid_iff (args := args) (parts := [(1, id.val)]) (by simp; omega)
  rw [laid, laid, List.append_nil] at layout
  rw [layout, profileArg]
  simp [asProfileId_eq_some]

theorem setExposureArgs_iff (e g : Nat) :
    setExposureArgs args = some (id, e, g) ↔
      args = beBytes 1 id.val ++ beBytes 4 e ++ beBytes 2 g ∧ 10 ≤ e ∧ e ≤ 1000000 ∧ 16 ≤ g ∧ g ≤ 256 := by
  have small := id.isLt
  have layout := laid_and_iff (args := args) [(1, id.val), (4, e), (2, g)]
    (ranges := 10 ≤ e ∧ e ≤ 1000000 ∧ 16 ≤ g ∧ g ≤ 256) (by simp; omega)
  simp only [laid, List.append_nil, ← List.append_assoc] at layout
  rw [layout]
  rcases asProfileId_cases (field args 0 1) with ⟨read, big⟩ | ⟨i, read, same⟩
  · simp [setExposureArgs, read]
    omega
  · simp [setExposureArgs, read, guardSome_eq_some, exposureInRange, gainInRange, Fin.ext_iff]
    omega

theorem setLimitsArgs_iff (l : Limits) :
    setLimitsArgs args = some (id, l) ↔
      args = beBytes 1 id.val ++ beBytes 4 l.exposureMin ++ beBytes 4 l.exposureMax ++ beBytes 2 l.gainMin
        ++ beBytes 2 l.gainMax ∧
      10 ≤ l.exposureMin ∧ l.exposureMin ≤ l.exposureMax ∧ l.exposureMax ≤ 1000000 ∧
      16 ≤ l.gainMin ∧ l.gainMin ≤ l.gainMax ∧ l.gainMax ≤ 256 := by
  obtain ⟨eMin, eMax, gMin, gMax⟩ := l
  have small := id.isLt
  have layout := laid_and_iff (args := args) [(1, id.val), (4, eMin), (4, eMax), (2, gMin), (2, gMax)]
    (ranges := 10 ≤ eMin ∧ eMin ≤ eMax ∧ eMax ≤ 1000000 ∧ 16 ≤ gMin ∧ gMin ≤ gMax ∧ gMax ≤ 256)
    (by simp; omega)
  simp only [laid, List.append_nil, ← List.append_assoc] at layout
  dsimp only
  rw [layout]
  rcases asProfileId_cases (field args 0 1) with ⟨read, big⟩ | ⟨i, read, same⟩
  · simp [setLimitsArgs, read]
    omega
  · simp [setLimitsArgs, read, guardSome_eq_some, exposureInRange, gainInRange, Fin.ext_iff]
    omega

theorem setTargetArgs_iff (target tolerance : Nat) :
    setTargetArgs args = some (id, target, tolerance) ↔
      args = beBytes 1 id.val ++ beBytes 2 target ++ beBytes 1 tolerance ∧ 64 ≤ target ∧ target ≤ 960 ∧
        4 ≤ tolerance ∧ tolerance ≤ 128 := by
  have small := id.isLt
  have layout := laid_and_iff (args := args) [(1, id.val), (2, target), (1, tolerance)]
    (ranges := 64 ≤ target ∧ target ≤ 960 ∧ 4 ≤ tolerance ∧ tolerance ≤ 128) (by simp; omega)
  simp only [laid, List.append_nil, ← List.append_assoc] at layout
  rw [layout]
  rcases asProfileId_cases (field args 0 1) with ⟨read, big⟩ | ⟨i, read, same⟩
  · simp [setTargetArgs, read]
    omega
  · simp [setTargetArgs, read, guardSome_eq_some, Fin.ext_iff]
    omega

theorem setWindowArgs_iff (sensorWidth sensorHeight : Nat) (w : Window) :
    setWindowArgs sensorWidth sensorHeight args = some (id, w) ↔
      args = beBytes 1 id.val ++ beBytes 2 w.x ++ beBytes 2 w.y ++ beBytes 2 w.width ++ beBytes 2 w.height ∧
      w.x < 65536 ∧ w.y < 65536 ∧ w.width < 65536 ∧ w.height < 65536 ∧
      16 ∣ w.x ∧ 16 ∣ w.width ∧ 8 ∣ w.y ∧ 8 ∣ w.height ∧ 64 ≤ w.width ∧ 8 ≤ w.height ∧
      w.x + w.width ≤ sensorWidth ∧ w.y + w.height ≤ sensorHeight := by
  obtain ⟨x, y, width, height⟩ := w
  have small := id.isLt
  have layout := laid_and_iff (args := args) [(1, id.val), (2, x), (2, y), (2, width), (2, height)]
    (ranges := x < 65536 ∧ y < 65536 ∧ width < 65536 ∧ height < 65536 ∧ 16 ∣ x ∧ 16 ∣ width ∧ 8 ∣ y ∧ 8 ∣ height ∧
      64 ≤ width ∧ 8 ≤ height ∧ x + width ≤ sensorWidth ∧ y + height ≤ sensorHeight) (by simp; omega)
  simp only [laid, List.append_nil, ← List.append_assoc] at layout
  dsimp only
  rw [layout]
  have fx := field_lt args 1 2
  have fy := field_lt args 3 2
  have fw := field_lt args 5 2
  have fh := field_lt args 7 2
  rcases asProfileId_cases (field args 0 1) with ⟨read, big⟩ | ⟨i, read, same⟩
  · simp [setWindowArgs, read]
    omega
  · simp [setWindowArgs, read, guardSome_eq_some, Window.valid, Fin.ext_iff]
    omega

/-- A byte of a choice of two: 0 for the one, 1 for the other. -/
theorem choice_iff {α : Type} {first second value : α} [DecidableEq α] (ne : first ≠ second) {n : Nat}
    (either : value = first ∨ value = second) :
    (n ≤ 1 ∧ (if n = 0 then first else second) = value) ↔ n = if value = first then 0 else 1 := by
  rcases either with rfl | rfl
  · rcases n with _ | n <;> simp [ne.symm]
  · rcases n with _ | _ | n <;> simp [ne, ne.symm]

theorem sharing_cases (sharing : Sharing) : sharing = .ownerOnly ∨ sharing = .shared := by
  cases sharing <;> simp

theorem askedMode_cases (mode : AskedMode) : mode = .manual ∨ mode = .auto := by
  cases mode <;> simp

/-- A profile id and a byte for a choice of two. -/
theorem idAndChoice_iff (first : Bool) :
    args = beBytes 1 id.val ++ [if first then (0x00 : Byte) else 0x01] ↔
      args.length = 2 ∧ field args 0 1 = id.val ∧ field args 1 1 = if first then 0 else 1 := by
  have small := id.isLt
  have layout := eq_laid_iff (args := args) (parts := [(1, id.val), (1, if first then 0 else 1)])
    (by cases first <;> simp <;> omega)
  have bytes : laid [(1, id.val), (1, if first then 0 else 1)] =
      beBytes 1 id.val ++ [if first then (0x00 : Byte) else 0x01] := by
    cases first <;> simp
  rw [← bytes, layout]
  simp

theorem shareArgs_iff (sharing : Sharing) :
    shareArgs args = some (id, sharing) ↔
      args = beBytes 1 id.val ++ [if sharing = .ownerOnly then 0x00 else 0x01] := by
  have layout := idAndChoice_iff args id (sharing = .ownerOnly)
  simp only [decide_eq_true_eq] at layout
  rw [layout]
  rcases asProfileId_cases (field args 0 1) with ⟨read, big⟩ | ⟨i, read, same⟩
  · simp [shareArgs, read]
    omega
  · rw [← choice_iff (by simp) (sharing_cases sharing), same]
    simp [shareArgs, read, guardSome_eq_some, Fin.ext_iff]
    tauto

theorem setModeArgs_iff (mode : AskedMode) :
    setModeArgs args = some (id, mode) ↔
      args = beBytes 1 id.val ++ [if mode = .manual then 0x00 else 0x01] := by
  have layout := idAndChoice_iff args id (mode = .manual)
  simp only [decide_eq_true_eq] at layout
  rw [layout]
  rcases asProfileId_cases (field args 0 1) with ⟨read, big⟩ | ⟨i, read, same⟩
  · simp [setModeArgs, read]
    omega
  · rw [← choice_iff (by simp) (askedMode_cases mode), same]
    simp [setModeArgs, read, guardSome_eq_some, Fin.ext_iff]
    tauto

/-! ### The steps of a list (R36) -/

/-- The bytes of a step list. -/
def stepBytes (steps : List BracketStep) : List Byte :=
  steps.flatMap fun t => [BitVec.ofInt 8 t.shift, BitVec.ofInt 8 t.offset]

theorem length_stepBytes (steps : List BracketStep) : (stepBytes steps).length = 2 * steps.length := by
  simp [stepBytes, List.length_flatMap, Nat.mul_comm]

theorem toInt_ofInt_small {v : Int} (low : -128 ≤ v) (high : v ≤ 127) : (BitVec.ofInt 8 v).toInt = v := by
  rw [BitVec.toInt_ofInt, Int.bmod_eq_of_le (by simpa using low) (by simp; omega)]

/-- The pairs read from the bytes of steps in range are the steps. -/
theorem stepPairs_stepBytes {steps : List BracketStep} (ranges : steps.all BracketStep.inRange = true) :
    stepPairs (stepBytes steps) = steps := by
  induction steps with
  | nil => rfl
  | cons t rest ih =>
    rw [List.all_cons, Bool.and_eq_true] at ranges
    obtain ⟨here, behind⟩ := ranges
    simp only [BracketStep.inRange, Bool.and_eq_true, decide_eq_true_eq] at here
    show BracketStep.mk (BitVec.ofInt 8 t.shift).toInt (BitVec.ofInt 8 t.offset).toInt :: stepPairs (stepBytes rest) = _
    rw [ih behind, toInt_ofInt_small (by omega) (by omega), toInt_ofInt_small (by omega) (by omega)]

/-- An even run of bytes is that of the pairs read from it. -/
theorem stepBytes_stepPairs (n : Nat) (bytes : List Byte) (length : bytes.length = 2 * n) :
    stepBytes (stepPairs bytes) = bytes := by
  induction n generalizing bytes with
  | zero =>
    obtain rfl : bytes = [] := List.length_eq_zero_iff.mp length
    rfl
  | succ n ih =>
    match bytes with
    | [_] => simp at length; omega
    | shift :: offset :: rest =>
      show BitVec.ofInt 8 shift.toInt :: BitVec.ofInt 8 offset.toInt :: stepBytes (stepPairs rest) = _
      rw [ih rest (by simp at length; omega), BitVec.ofInt_toInt, BitVec.ofInt_toInt]

theorem all_inRange_iff (steps : List BracketStep) :
    steps.all BracketStep.inRange = true ↔
      ∀ t ∈ steps, -3 ≤ t.shift ∧ t.shift ≤ 3 ∧ -64 ≤ t.offset ∧ t.offset ≤ 64 := by
  simp [List.all_eq_true, BracketStep.inRange, and_assoc]

/-- Two bytes and what follows them. -/
theorem eq_two_bytes_append {first second : Nat} (rest : List Byte) (small : first < 256) (low : second < 256) :
    args = beBytes 1 first ++ beBytes 1 second ++ rest ↔
      2 ≤ args.length ∧ field args 0 1 = first ∧ field args 1 1 = second ∧ args.drop 2 = rest := by
  constructor
  · rintro rfl
    have reads := reads_append (front := []) (parts := [(1, first), (1, second)]) (by simp; omega) 0 rfl rest
    simp only [List.nil_append, laid, List.append_nil, Reads, and_true, Nat.zero_add] at reads
    exact ⟨by simp, reads.1, reads.2, by simp⟩
  · rintro ⟨long, rfl, rfl, rfl⟩
    have whole := drop_eq_field (args := args) (start := 0) (width := 1) (by omega)
    rw [List.drop_zero, Nat.zero_add, drop_eq_field (start := 1) (width := 1) (by omega), ← List.append_assoc] at whole
    exact whole

theorem setStepsArgs_iff (steps : List BracketStep) :
    setStepsArgs args = some (id, steps) ↔
      args = beBytes 1 id.val ++ beBytes 1 steps.length ++ stepBytes steps ∧
      1 ≤ steps.length ∧ steps.length ≤ 4 ∧
      ∀ t ∈ steps, -3 ≤ t.shift ∧ t.shift ≤ 3 ∧ -64 ≤ t.offset ∧ t.offset ≤ 64 := by
  rw [← all_inRange_iff]
  have small := id.isLt
  rcases asProfileId_cases (field args 0 1) with ⟨read, big⟩ | ⟨i, read, same⟩
  · simp only [setStepsArgs, read, reduceCtorEq, false_iff]
    rintro ⟨shape, -, few, -⟩
    obtain ⟨-, here, -⟩ := (eq_two_bytes_append args _ (by omega) (by omega)).mp shape
    omega
  · simp only [setStepsArgs, read, guardSome_eq_some, Bool.and_eq_true, decide_eq_true_eq, beq_iff_eq, Prod.mk.injEq]
    constructor
    · rintro ⟨⟨⟨⟨some, few⟩, length⟩, ranges⟩, rfl, rfl⟩
      have behind : (args.drop 2).length = 2 * field args 1 1 := by
        rw [List.length_drop]
        omega
      have count := length_stepPairs _ _ behind
      rw [count, eq_two_bytes_append args _ (by omega) (by omega), stepBytes_stepPairs _ _ behind]
      exact ⟨⟨by omega, same, rfl, rfl⟩, some, few, ranges⟩
    · rintro ⟨shape, some, few, ranges⟩
      obtain ⟨long, here, count, behind⟩ := (eq_two_bytes_append args _ (by omega) (by omega)).mp shape
      have length := congrArg List.length behind
      rw [List.length_drop, length_stepBytes] at length
      rw [behind, stepPairs_stepBytes ranges, count]
      exact ⟨⟨⟨⟨some, few⟩, by omega⟩, ranges⟩, Fin.ext (same.symm.trans here), rfl⟩

end

/-- Settles O17: the reader of each profile and mode command. -/
theorem profileArgumentsAreRead : Obligations.ProfileArgumentsAreRead :=
  ⟨profileArg_iff, setExposureArgs_iff, setLimitsArgs_iff, setTargetArgs_iff,
    fun width height args id => setWindowArgs_iff args id width height, setStepsArgs_iff, shareArgs_iff,
    setModeArgs_iff⟩

end Sys2Proof.Proofs

/-! The readers of the arguments of the Request Manager, the Calendar, Delivery, Engine Control and the Sensor Link
(Tables 1-3 and 10-1; R11, R64, R116, R124, R125, R135, R137, R166). -/

namespace Sys2Proof.Proofs

open Sys2Proof.Machine Sys2Proof.Safety

section

variable (args : List Byte)

theorem tagArg_iff (tag : Nat) : tagArg args = some tag ↔ args = beBytes 1 tag ∧ 1 ≤ tag ∧ tag ≤ 255 := by
  have layout := laid_and_iff (args := args) [(1, tag)] (ranges := 1 ≤ tag ∧ tag ≤ 255) (by simp; omega)
  simp only [laid, List.append_nil] at layout
  rw [layout]
  have byte := field_byte_le args 0
  simp [tagArg, guardSome_eq_some]
  omega

theorem isPeriod_iff {p : Nat} : isPeriod p = true ↔ p ∈ [1, 2, 4, 8, 16, 32, 64] := by
  simp [isPeriod, or_assoc]

theorem period_lt {p : Nat} (mem : p ∈ [1, 2, 4, 8, 16, 32, 64]) : p < 256 := by
  simp at mem
  omega

/-- What the kind and the count of SUBMIT spell (Table 1-3). -/
def SpellsKind (kind count : Nat) (k : RequestKind) : Prop :=
  (kind = 0 ∧ count = 0 ∧ k = .stream) ∨ (kind = 1 ∧ 1 ≤ count ∧ count ≤ 65535 ∧ k = .burst count 0)

theorem SpellsKind.kind_le {kind count : Nat} {k : RequestKind} (spells : SpellsKind kind count k) : kind ≤ 1 := by
  rcases spells with ⟨rfl, -⟩ | ⟨rfl, -⟩ <;> decide

theorem SpellsKind.count_le {kind count : Nat} {k : RequestKind} (spells : SpellsKind kind count k) :
    count ≤ 65535 := by
  rcases spells with ⟨-, rfl, -⟩ | ⟨-, -, high, -⟩
  · decide
  · exact high

theorem spellsKind_iff {kind count : Nat} {k : RequestKind} (fits : count ≤ 65535) :
    SpellsKind kind count k ↔
      (kind ≤ 1 ∧ if kind = 0 then count = 0 else 1 ≤ count) ∧
        (if kind = 0 then RequestKind.stream else .burst count 0) = k := by
  rcases kind with _ | _ | kind
  · simp [SpellsKind, eq_comm]
  · simp [SpellsKind, fits, eq_comm]
  · simp [SpellsKind]

theorem submitArgs_iff (a : SubmitArgs) :
    submitArgs args = some a ↔
      ∃ kind count,
        args = beBytes 1 a.tag ++ beBytes 1 kind ++ beBytes 1 a.profile.val ++ beBytes 1 a.period
          ++ beBytes 1 a.preferredPhase ++ beBytes 1 a.priority ++ beBytes 1 a.missLimit ++ beBytes 2 count ∧
        1 ≤ a.tag ∧ a.tag ≤ 255 ∧ a.period ∈ [1, 2, 4, 8, 16, 32, 64] ∧ a.preferredPhase ≤ 63 ∧ a.priority ≤ 3 ∧
        a.missLimit ≤ 15 ∧ SpellsKind kind count a.kind := by
  obtain ⟨tag, k, profile, period, phase, priority, missLimit⟩ := a
  have small := profile.isLt
  have layout : ∀ kind count : Nat, _ ↔ _ := fun kind count =>
    laid_and_iff (args := args)
      [(1, tag), (1, kind), (1, profile.val), (1, period), (1, phase), (1, priority), (1, missLimit), (2, count)]
      (ranges := 1 ≤ tag ∧ tag ≤ 255 ∧ period ∈ [1, 2, 4, 8, 16, 32, 64] ∧ phase ≤ 63 ∧ priority ≤ 3 ∧
        missLimit ≤ 15 ∧ SpellsKind kind count k)
      fun ⟨_, tagHigh, isPeriod, phaseHigh, priorityHigh, limitHigh, spells⟩ => by
        have short := period_lt isPeriod
        have kindHigh := spells.kind_le
        have countHigh := spells.count_le
        simp
        omega
  simp only [laid, List.append_nil, ← List.append_assoc] at layout
  refine Iff.trans ?_ (exists₂_congr layout).symm
  have tagByte := field_byte_le args 0
  have countHigh : field args 7 2 ≤ 65535 := Nat.le_of_lt_succ (field_lt args 7 2)
  rcases asProfileId_cases (field args 2 1) with ⟨read, big⟩ | ⟨i, read, same⟩
  · simp [submitArgs, read]
    omega
  · simp only [submitArgs, read, guardSome_eq_some, SubmitArgs.mk.injEq]
    constructor
    · rintro ⟨tests, rfl, isKind, rfl, rfl, rfl, rfl, rfl⟩
      refine ⟨field args 1 1, field args 7 2, ?_⟩
      rw [spellsKind_iff countHigh, ← isPeriod_iff]
      simp at tests isKind ⊢
      tauto
    · rintro ⟨kind, count, ⟨length, reads⟩, tagLow, -, period, phaseHigh, priorityHigh, limitHigh, spells⟩
      simp only [Reads, Nat.zero_add, Nat.reduceAdd, and_true] at reads
      obtain ⟨rfl, rfl, here, rfl, rfl, rfl, rfl, rfl⟩ := reads
      obtain rfl : i = profile := Fin.ext (same.symm.trans here)
      rw [spellsKind_iff spells.count_le] at spells
      rw [← isPeriod_iff] at period
      simp at spells length ⊢
      tauto

theorem readSlotArgs_iff (shadow : Bool) (index : Nat) :
    readSlotArgs args = some (shadow, index) ↔
      args = beBytes 1 (if shadow then 1 else 0) ++ beBytes 1 index ∧ index ≤ 63 := by
  have layout := laid_and_iff (args := args) [(1, if shadow then 1 else 0), (1, index)] (ranges := index ≤ 63)
    (by cases shadow <;> simp <;> omega)
  simp only [laid, List.append_nil] at layout
  rw [layout]
  cases shadow <;> simp [readSlotArgs, guardSome_eq_some] <;> omega

theorem ackArg_iff (number : BitVec 32) : ackArg args = some number ↔ args = beBytes 4 number.toNat := by
  have layout := eq_laid_iff (args := args) (parts := [(4, number.toNat)]) (by simp; exact number.isLt)
  simp only [laid, List.append_nil] at layout
  have bound : field args 0 4 < 4294967296 := field_lt args 0 4
  rw [layout]
  simp [ackArg, guardSome_eq_some, ← BitVec.toNat_inj, Nat.mod_eq_of_lt bound]

theorem holdArg_iff (limit : Nat) :
    holdArg args = some limit ↔ args = beBytes 2 limit ∧ (limit = 0 ∨ (10 ≤ limit ∧ limit ≤ 5000)) := by
  have layout := laid_and_iff (args := args) [(2, limit)] (ranges := limit = 0 ∨ (10 ≤ limit ∧ limit ≤ 5000))
    (by simp; omega)
  simp only [laid, List.append_nil] at layout
  rw [layout]
  simp [holdArg, guardSome_eq_some]
  omega

theorem quotaArgs_iff (g : HostId) (q : Quota) :
    quotaArgs args = some (g, q) ↔
      args = beBytes 1 g.number ++ beBytes 1 q.requests ++ beBytes 1 q.profiles ∧ q.requests ≤ 32 ∧
        q.profiles ≤ 16 := by
  obtain ⟨requests, profiles⟩ := q
  have small : g.number ≤ 3 := by cases g <;> decide
  have layout := laid_and_iff (args := args) [(1, g.number), (1, requests), (1, profiles)]
    (ranges := requests ≤ 32 ∧ profiles ≤ 16) (by simp; omega)
  simp only [laid, List.append_nil, ← List.append_assoc] at layout
  dsimp only
  rw [layout]
  cases read : asHost (field args 0 1) with
  | none =>
    have other : field args 0 1 ≠ g.number := fun same => by
      rw [asHost_eq_some.mpr same] at read
      cases read
    simp [quotaArgs, read, other]
  | some host =>
    have same := asHost_eq_some.mp read
    have named : host = g ↔ field args 0 1 = g.number := by
      rw [same]
      exact ⟨congrArg _, fun e => by cases host <;> cases g <;> first | rfl | cases e⟩
    simp [quotaArgs, read, guardSome_eq_some, named]
    omega

theorem sensorReadArgs_iff (op : DirectOp) :
    sensorReadArgs args = some op ↔
      ∃ register count, op = .read register count ∧ args = beBytes 2 register.toNat ++ beBytes 1 count ∧
        1 ≤ count ∧ count ≤ 3 := by
  have bound : field args 0 2 < 2 ^ 16 := field_lt args 0 2
  constructor
  · intro read
    obtain ⟨tests, rfl⟩ := guardSome_eq_some.mp read
    simp only [Bool.and_eq_true, decide_eq_true_eq, beq_iff_eq] at tests
    obtain ⟨⟨length, some⟩, few⟩ := tests
    refine ⟨_, _, rfl, ?_, some, few⟩
    have whole := eq_laid (args := args) (parts := [(2, field args 0 2), (1, field args 2 1)]) (by simpa using length)
      (by simp)
    rw [BitVec.toNat_ofNat, Nat.mod_eq_of_lt bound]
    simpa only [laid, List.append_nil] using whole
  · rintro ⟨register, count, rfl, shape, some, few⟩
    have layout := eq_laid_iff (args := args) (parts := [(2, register.toNat), (1, count)])
      (by simp; exact ⟨register.isLt, by omega⟩)
    simp only [laid, List.append_nil] at layout
    obtain ⟨length, high, low, -⟩ := layout.mp shape
    rw [Nat.zero_add] at low
    simp [sensorReadArgs, guardSome_eq_some, high, low, some, few, length]

theorem sensorWriteArgs_iff (op : DirectOp) :
    sensorWriteArgs args = some op ↔
      ∃ register bytes, op = .write register bytes ∧ args = beBytes 2 register.toNat ++ bytes ∧
        1 ≤ bytes.length ∧ bytes.length ≤ 3 := by
  have bound : field args 0 2 < 2 ^ 16 := field_lt args 0 2
  constructor
  · intro read
    obtain ⟨tests, rfl⟩ := guardSome_eq_some.mp read
    simp only [Bool.and_eq_true, decide_eq_true_eq] at tests
    obtain ⟨long, short⟩ := tests
    have whole := drop_eq_field (args := args) (start := 0) (width := 2) (by omega)
    refine ⟨_, _, rfl, ?_, ?_⟩
    · rw [BitVec.toNat_ofNat, Nat.mod_eq_of_lt bound]
      simpa using whole
    · rw [List.length_drop]
      omega
  · rintro ⟨register, bytes, rfl, rfl, some, few⟩
    have high := field_beBytes_append (width := 2) register.isLt bytes
    simp [sensorWriteArgs, guardSome_eq_some, high]
    omega

/-- The number of a kind, as SET_MAP spells it (R116). -/
def kindNumber : ParamKind → Nat
  | .exposure => 0
  | .gain => 1
  | .cropX => 2
  | .cropY => 3
  | .cropW => 4
  | .cropH => 5

theorem kindNumber_le (kind : ParamKind) : kindNumber kind ≤ 5 := by cases kind <;> decide

theorem asParamKind_eq_some {n : Nat} {kind : ParamKind} : asParamKind n = some kind ↔ n = kindNumber kind := by
  constructor
  · intro read
    match n with
    | 0 | 1 | 2 | 3 | 4 | 5 => cases read; rfl
    | n + 6 => cases read
  · rintro rfl
    cases kind <;> rfl

theorem kindNumber_inj {k j : ParamKind} : kindNumber k = kindNumber j ↔ k = j :=
  ⟨fun same => by
    have read := asParamKind_eq_some.mpr same
    rw [asParamKind_eq_some.mpr rfl] at read
    exact Option.some.inj read, congrArg _⟩

theorem setMapArgs_iff (kind : ParamKind) (e : MapEntry) :
    setMapArgs args = some (kind, e) ↔
      args = beBytes 1 (kindNumber kind) ++ beBytes 2 e.register.toNat ++ beBytes 1 e.count ∧ e.count ≤ 3 := by
  obtain ⟨register, count⟩ := e
  have small := kindNumber_le kind
  have isReg := register.isLt
  have bound : field args 1 2 < 2 ^ 16 := field_lt args 1 2
  have layout := laid_and_iff (args := args) [(1, kindNumber kind), (2, register.toNat), (1, count)]
    (ranges := count ≤ 3) (by simp; omega)
  simp only [laid, List.append_nil, ← List.append_assoc] at layout
  dsimp only
  rw [layout]
  cases read : asParamKind (field args 0 1) with
  | none =>
    have other : field args 0 1 ≠ kindNumber kind := fun same => by
      rw [asParamKind_eq_some.mpr same] at read
      cases read
    simp [setMapArgs, read, other]
  | some k =>
    have named : k = kind ↔ field args 0 1 = kindNumber kind := by rw [asParamKind_eq_some.mp read, kindNumber_inj]
    simp [setMapArgs, read, guardSome_eq_some, ← BitVec.toNat_inj, named]
    omega

/-- The code byte of a configuration item, the width of its value, the value, and its range (Table 10-1). -/
def itemCode : ConfigItem → Byte
  | .slotPeriod _ => 0x00
  | .claimExpiry _ => 0x01
  | .address _ => 0x02
  | .width _ => 0x03
  | .height _ => 0x04
  | .readout _ => 0x05
  | .lineTime _ => 0x06

def itemWidth : ConfigItem → Nat
  | .slotPeriod _ | .readout _ | .lineTime _ => 4
  | .claimExpiry _ | .width _ | .height _ => 2
  | .address _ => 1

def itemValue : ConfigItem → Nat
  | .slotPeriod v | .claimExpiry v | .width v | .height v | .readout v | .lineTime v => v
  | .address a => a.toNat

def ItemInRange : ConfigItem → Prop
  | .slotPeriod v => 1000 ≤ v ∧ v ≤ 1000000
  | .claimExpiry v => 100 ≤ v ∧ v ≤ 60000
  | .address _ => True
  | .width v => 64 ≤ v ∧ v ≤ 4096 ∧ 16 ∣ v
  | .height v => 8 ≤ v ∧ v ≤ 4096 ∧ 8 ∣ v
  | .readout v => 100 ≤ v ∧ v ≤ 500000
  | .lineTime v => 1000 ≤ v ∧ v ≤ 100000

theorem itemValue_lt {item : ConfigItem} (within : ItemInRange item) : itemValue item < 256 ^ itemWidth item := by
  cases item <;> simp only [ItemInRange, itemValue, itemWidth] at within ⊢ <;> omega

/-- The bytes of a number are those that have their length and spell it. -/
theorem eq_beBytes_iff {width v : Nat} (fits : v < 256 ^ width) (value : List Byte) :
    value = beBytes width v ↔ value.length = width ∧ beNat value = v := by
  constructor
  · rintro rfl
    exact ⟨length_beBytes .., beNat_beBytes fits⟩
  · rintro ⟨rfl, rfl⟩
    exact (beBytes_beNat value).symm

theorem itemCode_le (item : ConfigItem) : (itemCode item).toNat ≤ 6 := by cases item <;> simp [itemCode]

theorem address_iff {n : Nat} {a : BitVec 7} : n ≤ 127 ∧ BitVec.ofNat 7 n = a ↔ n = a.toNat := by
  rw [← BitVec.toNat_inj, BitVec.toNat_ofNat]
  omega

theorem configArgs_cons_iff (code : Byte) (value : List Byte) (item : ConfigItem) :
    configArgs (code :: value) = some item ↔
      code = itemCode item ∧ (value.length = itemWidth item ∧ beNat value = itemValue item) ∧ ItemInRange item := by
  by_cases known : code.toNat ≤ 6
  · obtain rfl | rfl | rfl | rfl | rfl | rfl | rfl :
        code = 0 ∨ code = 1 ∨ code = 2 ∨ code = 3 ∨ code = 4 ∨ code = 5 ∨ code = 6 := by bv_omega
    all_goals
      cases item <;>
        simp [configArgs, guardSome_eq_some, itemCode, itemWidth, itemValue, ItemInRange, and_assoc, address_iff] <;>
        omega
  · have none : configArgs (code :: value) = none := by
      obtain ⟨n, same⟩ := Nat.exists_eq_add_of_le' (not_le.mp known)
      simp [configArgs, same]
    have other : code ≠ itemCode item := fun same => known (same ▸ itemCode_le item)
    simp [none, other]

theorem configArgs_iff (item : ConfigItem) :
    configArgs args = some item ↔
      args = itemCode item :: beBytes (itemWidth item) (itemValue item) ∧ ItemInRange item := by
  match args with
  | [] => simp [configArgs]
  | code :: value =>
    rw [configArgs_cons_iff, List.cons.injEq, and_assoc (b := value = _)]
    exact and_congr_right fun _ => and_congr_left fun within => (eq_beBytes_iff (itemValue_lt within) value).symm

end

/-- The kind byte of SET_MAP, as its rule lists it. -/
theorem kindByte (kind : ParamKind) :
    BitVec.ofNat 8 (kindNumber kind) =
      match kind with
        | .exposure => 0x00
        | .gain => 0x01
        | .cropX => 0x02
        | .cropY => 0x03
        | .cropW => 0x04
        | .cropH => 0x05 := by
  cases kind <;> rfl

/-- Settles O16: the reader of each command of the Request Manager, the Calendar, Delivery, Engine Control and the
Sensor Link. -/
theorem requestAndConfigurationArgumentsAreRead : Obligations.RequestAndConfigurationArgumentsAreRead := by
  refine ⟨⟨submitArgs_iff, tagArg_iff, readSlotArgs_iff, ackArg_iff, holdArg_iff⟩, fun args item => ?_, quotaArgs_iff,
    sensorReadArgs_iff, sensorWriteArgs_iff, fun args kind e => ?_⟩
  · rw [configArgs_iff]
    cases item <;> simp only [itemCode, itemWidth, itemValue, ItemInRange, and_true]
  · have layout := setMapArgs_iff args kind e
    rw [beBytes_one (kindNumber kind), kindByte, List.append_assoc] at layout
    exact layout

end Sys2Proof.Proofs

/-! The first checks of the host commands: the port attached, and the arguments read (R144, R152 and the first checks of
every command's rule). -/

namespace Sys2Proof.Proofs

open Sys2Proof.Machine Sys2Proof.Safety

theorem ifRange_of_none {α : Type} {parsed : Option α} (bad : parsed = none) (s : State) (run : α → Reply) :
    ifRange parsed s run = refuse .range s := by
  rw [bad, ifRange_none]

/-- Every command but ATTACH and GET_STATUS begins with the attach check. -/
theorem exec_takingOf (h : HostId) {c : CommandCode} (notAttach : c ≠ .attach) (notStatus : c ≠ .getStatus) :
    ∃ run, ∀ s, exec (takingOf h c) s = .next (takeCommand c h (ifAttached h run) s) := by
  cases c
  case attach => exact absurd rfl notAttach
  case getStatus => exact absurd rfl notStatus
  all_goals exact ⟨_, fun _ => rfl⟩

/-- The arguments are not those of the command: its reader reads none of them. -/
def Unread (c : CommandCode) (args : List Byte) (s : State) : Prop :=
  match c with
  | .submit => submitArgs args = none
  | .cancel | .resume | .queryRequest | .listRequests => tagArg args = none
  | .deleteProfile | .readProfile | .tune => profileArg args = none
  | .setExposure => setExposureArgs args = none
  | .setLimits => setLimitsArgs args = none
  | .setTarget => setTargetArgs args = none
  | .setWindow => setWindowArgs s.link.description.width s.link.description.height args = none
  | .setSteps => setStepsArgs args = none
  | .share => shareArgs args = none
  | .setMode => setModeArgs args = none
  | .readSlot => readSlotArgs args = none
  | .ackRecord => ackArg args = none
  | .setHold => holdArg args = none
  | .setConfig => configArgs args = none
  | .setQuota => quotaArgs args = none
  | .sensorRead => sensorReadArgs args = none
  | .sensorWrite => sensorWriteArgs args = none
  | .setMap => setMapArgs args = none
  | .setAttention => ∀ mask : Byte, args = [mask] → 7 < mask.toNat
  | .attach => False
  | .detach | .getStatus | .getNotice | .createProfile | .rebuild | .getCalendarInfo | .fetchRecord | .claim
  | .release | .readConfig | .start | .stop => args ≠ []

theorem maskArg_eq_none {args : List Byte} (high : ∀ mask : Byte, args = [mask] → 7 < mask.toNat) :
    maskArg args = none :=
  Option.eq_none_iff_forall_ne_some.mpr fun m read => by
    obtain ⟨mask, bare, low, -⟩ := maskArg_eq_some.mp read
    exact absurd low (high mask bare).not_ge

/-- Behind the attach check stands that of the arguments. -/
theorem takes_unread {h : HostId} {c : CommandCode} {cmd : Handed} {s : State} (takes : Takes s h c cmd)
    (unread : Unread c cmd.args s) : exec (takingOf h c) s = .next (answering h cmd .range [] (taken s h c)) := by
  by_cases status : c = .getStatus
  · subst status
    obtain ⟨waits, -, -⟩ := takes
    exact (getStatusAnswersItsNineteenBytes.2 h cmd s waits).1 unread
  have range : ∃ run, (∀ s, exec (takingOf h c) s = .next (takeCommand c h (ifAttached h run) s)) ∧
      run cmd (taken s h c) = refuse .range (taken s h c) := by
    cases c
    case attach => exact unread.elim
    case getStatus => exact absurd rfl status
    case setAttention => exact ⟨_, fun _ => rfl, ifRange_of_none (maskArg_eq_none unread) _ _⟩
    case detach | getNotice | createProfile | rebuild | getCalendarInfo | fetchRecord | claim | release | readConfig
      | start | stop => exact ⟨_, fun _ => rfl, ifRange_of_none (noArgs_ne unread) _ _⟩
    all_goals exact ⟨_, fun _ => rfl, ifRange_of_none unread _ _⟩
  obtain ⟨run, runs, refused⟩ := range
  rw [runs, takeCommand_takes takes, refused, finish_refuse]

/-- Settles O18: the attach check, then the check of the arguments. -/
theorem commandsCheckTheirPortAndArgumentsFirst : Obligations.CommandsCheckTheirPortAndArgumentsFirst := by
  constructor
  · intro h c cmd s notAttach notStatus waits detached
    obtain ⟨run, runs⟩ := exec_takingOf h notAttach notStatus
    rw [runs, takeCommand_detached waits detached]
  · intro h c cmd s takes unread
    refine takes_unread takes ?_
    cases c <;> exact unread

end Sys2Proof.Proofs

/-! The commands of the Request Manager SUBMIT and RESUME (R2, R8 to R10, R12). -/

namespace Sys2Proof.Proofs

open Sys2Proof.Machine Sys2Proof.Safety

/-! ### The builder's trigger and requests by name -/

/-- No live request has the name. -/
theorem request_eq_none {s : State} {h : HostId} {tag : Nat} :
    s.request h tag = none ↔ ∀ r ∈ s.requests.table, ¬(r.owner = h ∧ r.tag = tag) := by
  rw [State.request, List.find?_eq_none]
  exact forall₂_congr fun r _ => not_congr named_iff

/-- The request a name finds is the one that has it. -/
theorem request_of_named {s : State} (ok : RequestsOk s) {r : Request} (here : r ∈ s.requests.table) {h : HostId}
    {tag : Nat} (owner : r.owner = h) (name : r.tag = tag) : s.request h tag = some r := by
  subst owner name
  exact request_of_mem ok here

/-! ### SUBMIT (R2, R8 to R10) -/

theorem usableBy_iff {p : Profile} {h : HostId} :
    p.usableBy h = true ↔ p.life = .live h ∨ (p.sharing = .shared ∧ p.life ≠ .orphaned) := by
  rw [Profile.usableBy]
  cases p.life with
  | orphaned => simp
  | live owner => simp

/-- The next admission sequence is the first value behind the counter that no live request holds. -/
theorem nextSequence_eq {m : RequestManager} {skipped : Nat} (few : m.table.length < 2 ^ 32)
    (held : ∀ j < skipped, ∃ r ∈ m.table, r.sequence = m.counter + 1 + BitVec.ofNat 32 j)
    (free : ∀ r ∈ m.table, r.sequence ≠ m.counter + 1 + BitVec.ofNat 32 skipped) :
    nextSequence m = m.counter + 1 + BitVec.ofNat 32 skipped := by
  obtain ⟨k, -, value, before, -⟩ := firstFreeSequence_spec m.table m.table.length (m.counter + 1)
  have unheld := nextSequence_free few
  rw [nextSequence, value] at unheld ⊢
  rcases lt_trichotomy k skipped with less | rfl | more
  · obtain ⟨r, here, same⟩ := held k less
    exact absurd same (unheld r here)
  · rfl
  · obtain ⟨r, here, same⟩ := before skipped more
    exact absurd same (free r here)

theorem raiseReference_some {s : State} {id : Fin 16} {p : Profile} (entry : s.profile id = some p) :
    raiseReference id s = s.setProfile id (some { p with references := p.references + 1 }) := by
  rw [raiseReference, entry]

/-- The admission of a request whose profile exists. -/
theorem admitRequest_eq {h : HostId} {a : SubmitArgs} {p : Profile} {s : State} (entry : s.profile a.profile = some p) :
    admitRequest h a s =
      let n := nextSequence s.requests
      let t : State :=
        { s with
          requests := { table := s.requests.table ++ [admitted h a n], counter := n }
          profiles := s.profiles.set a.profile (some { p with references := p.references + 1 }) }
      { t with calendar := { s.calendar with builder := triggered s.calendar.builder t } } := by
  rw [admitRequest, raiseReference_some (p := p), trigger_eq]
  · rfl
  · exact entry

theorem exec_submit {h : HostId} {cmd : Handed} {s : State} (takes : Takes s h .submit cmd) :
    exec (.submit h) s = .next ((submit h cmd (taken s h .submit)).finish h cmd) :=
  congrArg _ (takeCommand_takes takes _)

/-- SUBMIT with arguments read, as the checks of Table 1-4 follow one another. -/
theorem exec_submit_read {h : HostId} {cmd : Handed} {a : SubmitArgs} {s : State} (takes : Takes s h .submit cmd)
    (read : submitArgs cmd.args = some a) :
    exec (.submit h) s =
      .next
        (Reply.finish h cmd
          (if (s.request h a.tag).isSome then refuse .duplicate (taken s h .submit)
          else
            (s.profile a.profile).elim (refuse .noSuch (taken s h .submit)) fun p =>
              if !p.usableBy h then refuse .notOwner (taken s h .submit)
              else if a.period < p.steps.length then refuse .range (taken s h .submit)
              else if (s.engine.quotas.get h).requests ≤ (s.requestsOf h).length then
                refuse .quota (taken s h .submit)
              else if 32 ≤ s.requests.table.length then refuse .tableFull (taken s h .submit)
              else
                accept (beBytes 4 (nextSequence s.requests).toNat) (admitRequest h a (taken s h .submit)))) := by
  rw [exec_submit takes, submit, read, ifRange_some]
  simp only [taken_request, taken_profile]
  cases s.profile a.profile <;> rfl

/-- Settles O19: the admission, and the checks of Table 1-4 in their order. -/
theorem submitAdmitsOrRefusesInOrder : Obligations.SubmitAdmitsOrRefusesInOrder := by
  constructor
  · intro h cmd a p n skipped s takes read unnamed entry usable long below room value free _ held
    have sequence : nextSequence s.requests = n := by
      subst value
      exact nextSequence_eq (by omega) held free
    rw [exec_submit_read takes read, request_eq_none.mpr unnamed, entry,
      admitRequest_eq (s := taken s h .submit) entry, taken_requests, sequence]
    simp only [Option.isSome_none, Bool.false_eq_true, if_false, Option.elim_some, usableBy_iff.mpr usable,
      Bool.not_true, not_lt.mpr long, not_le.mpr below, not_le.mpr room]
    rfl
  · intro h cmd a s takes read
    rw [exec_submit_read takes read]
    refine ⟨fun named => ?_, fun unnamed => ?_⟩
    · obtain ⟨r, here, name⟩ := named
      have some : (s.request h a.tag).isSome = true := by
        rw [Option.isSome_iff_ne_none, ne_eq, request_eq_none]
        exact fun none => none r here name
      rw [if_pos some, finish_refuse]
    · rw [request_eq_none.mpr fun r here name => unnamed ⟨r, here, name⟩, Option.isSome_none,
        if_neg Bool.false_ne_true]
      refine ⟨fun absent => by rw [absent]; rfl, fun p entry => ?_⟩
      rw [entry, Option.elim_some, ← usableBy_iff]
      refine ⟨fun unusable => ?_, fun usable short => ?_, fun usable long full => ?_, fun usable long below full => ?_⟩
      · simp [unusable]
      · simp [usable, short]
      · simp [usable, long.not_gt, full]
      · simp [usable, long.not_gt, below, full]

/-! ### RESUME (R12) -/

/-- A command that names a request by a tag it reads. -/
theorem withRequest_none {h : HostId} {cmd : Handed} {tag : Nat} {s : State} (read : tagArg cmd.args = some tag)
    (unnamed : ∀ r ∈ s.requests.table, ¬(r.owner = h ∧ r.tag = tag)) (run : Request → Reply) :
    withRequest h cmd s run = refuse .noSuch s := by
  rw [withRequest, read, ifRange_some, request_eq_none.mpr unnamed]

theorem withRequest_some {h : HostId} {cmd : Handed} {tag : Nat} {s : State} {r : Request}
    (read : tagArg cmd.args = some tag) (found : s.request h tag = some r) (run : Request → Reply) :
    withRequest h cmd s run = run r := by
  rw [withRequest, read, ifRange_some, found]

/-- The one request of a name changed. -/
theorem updateRequest_of_mem {s : State} (ok : RequestsOk s) {r : Request} (here : r ∈ s.requests.table)
    (f : Request → Request) :
    s.updateRequest r.owner r.tag f = s.setTable (s.requests.table.map fun q => if q = r then f q else q) := by
  refine congrArg s.setTable (List.map_congr_left fun q inTable => ?_)
  have same : q.named r.owner r.tag = true ↔ q = r := by
    rw [named_iff]
    exact ⟨fun ⟨owner, tag⟩ => named_unique ok inTable here owner tag, fun e => e ▸ ⟨rfl, rfl⟩⟩
  exact if_congr same rfl rfl

/-- Settles O21: RESUME by the state of the request. -/
theorem resumeMakesASuspendedRequestPending : Obligations.ResumeMakesASuspendedRequestPending := by
  intro h cmd tag s takes read ok
  have runs : exec (.resume h) s = .next ((resume h cmd (taken s h .resume)).finish h cmd) :=
    congrArg _ (takeCommand_takes takes _)
  refine ⟨fun unnamed => ?_, fun r here owner name => ?_⟩
  · rw [runs, resume, withRequest_none read (s := taken s h .resume) unnamed, finish_refuse]
  · have found : (taken s h .resume).request h tag = some r := request_of_named ok here owner name
    rw [runs, resume, withRequest_some read found]
    refine ⟨fun other => by rw [if_neg other, finish_refuse], fun suspended => ?_⟩
    subst owner
    rw [if_pos suspended, finish_accept, trigger_eq,
      updateRequest_of_mem (s := taken s r.owner .resume) (requestsOk_of_table ok rfl) here]
    rfl

end Sys2Proof.Proofs

/-! QUERY_REQUEST and LIST_REQUESTS (R13, R14). -/

namespace Sys2Proof.Proofs

open Sys2Proof.Machine Sys2Proof.Safety

/-! ### QUERY_REQUEST (R13) -/

/-- The byte of the state of a request (R13, R14). -/
def stateByte : RequestState → Byte
  | .pending => 0x00
  | .waiting => 0x01
  | .active _ => 0x02
  | .suspended => 0x03

theorem beBytes_state (state : RequestState) : beBytes 1 state.code = [stateByte state] := by
  rw [beBytes_one]
  cases state <;> rfl

/-- The byte of the kind of a request, and the four bytes of its counts (R13). -/
def requestKindByte : RequestKind → Byte
  | .stream => 0x00
  | .burst _ _ => 0x01

def countBytes : RequestKind → List Byte
  | .stream => [0x00, 0x00, 0x00, 0x00]
  | .burst count done => beBytes 2 count ++ beBytes 2 done

/-- The byte of the current phase, all ones without one (R13). -/
def phaseBytes : RequestState → List Byte
  | .active phase => beBytes 1 phase
  | _ => [0xFF]

theorem requestResults_eq (r : Request) :
    requestResults r =
      beBytes 1 r.tag ++ [requestKindByte r.kind] ++ [stateByte r.state] ++ beBytes 1 r.profile.val ++ beBytes 1 r.period
        ++ beBytes 1 r.preferredPhase ++ beBytes 1 r.priority ++ beBytes 1 r.missLimit ++ beBytes 1 r.misses
        ++ countBytes r.kind ++ phaseBytes r.state ++ beBytes 4 r.sequence.toNat := by
  rw [requestResults]
  simp only [beBytes_state]
  cases r.kind <;> cases r.state <;> simp only [beBytes_one, phaseBytes] <;> rfl

theorem tagArg_eq_none {args : List Byte} (bad : ¬∃ tag, args = beBytes 1 tag ∧ 1 ≤ tag ∧ tag ≤ 255) :
    tagArg args = none :=
  Option.eq_none_iff_forall_ne_some.mpr fun tag read => bad ⟨tag, (tagArg_iff args tag).mp read⟩

/-- The QUERY_REQUEST half of O22. -/
theorem queryRequest_answers (h : HostId) (cmd : Handed) (s : State)
    (waits : (s.port h).waitingCommand .queryRequest = some cmd) :
    let s1 := taken s h .queryRequest
    ((s.port h).attached = false ∨ cmd.stale = true →
      exec (.queryRequest h) s = .next (answering h cmd .notAttached [] s1)) ∧
    ((s.port h).attached = true → cmd.stale = false →
      (¬(∃ tag, cmd.args = beBytes 1 tag ∧ 1 ≤ tag ∧ tag ≤ 255) →
        exec (.queryRequest h) s = .next (answering h cmd .range [] s1)) ∧
      ∀ tag, cmd.args = beBytes 1 tag → 1 ≤ tag → tag ≤ 255 →
        ((∀ r ∈ s.requests.table, ¬(r.owner = h ∧ r.tag = tag)) →
          exec (.queryRequest h) s = .next (answering h cmd .noSuch [] s1)) ∧
        ∀ r ∈ s.requests.table, r.owner = h → r.tag = tag →
          (∀ q ∈ s.requests.table, q.owner = h → q.tag = tag → q = r) →
          exec (.queryRequest h) s = .next (answering h cmd .ok (requestResults r) s1)) := by
  refine ⟨fun detached => ?_, fun attached fresh => ?_⟩
  · exact congrArg _ (takeCommand_detached waits detached _)
  · have takes : Takes s h .queryRequest cmd := ⟨waits, attached, fresh⟩
    refine ⟨fun bad => takes_unread takes (tagArg_eq_none bad), fun tag shape low high => ?_⟩
    have read := (tagArg_iff cmd.args tag).mpr ⟨shape, low, high⟩
    have runs : exec (.queryRequest h) s = .next (Reply.finish h cmd (withRequest h cmd (taken s h .queryRequest)
        fun r => accept (requestResults r) (taken s h .queryRequest))) := congrArg _ (takeCommand_takes takes _)
    rw [runs]
    refine ⟨fun unnamed => ?_, fun r here owner name alone => ?_⟩
    · rw [withRequest_none (s := taken s h .queryRequest) read unnamed, finish_refuse]
    · have found : (taken s h .queryRequest).request h tag = some r := by
        cases found : s.request h tag with
        | none => exact absurd ⟨owner, name⟩ (request_eq_none.mp found r here)
        | some q =>
          obtain ⟨owner', name'⟩ := request_named found
          rw [taken_request, found, alone q (request_mem found) owner' name']
      rw [withRequest_some read found, finish_accept]

/-! ### LIST_REQUESTS (R14) -/

/-- The requests of a host by ascending tag. -/
def byTag (requests : List Request) : List Request := requests.insertionSort fun a b => a.tag ≤ b.tag

theorem byTag_perm (requests : List Request) : (byTag requests).Perm requests := List.perm_insertionSort ..

/-- Requests of one host stand in strictly ascending tag order. -/
theorem byTag_ascending {s : State} (ok : RequestsOk s) (h : HostId) :
    (byTag (s.requestsOf h)).Pairwise fun a b => a.tag < b.tag := by
  have order : (byTag (s.requestsOf h)).Pairwise fun a b => a.tag ≤ b.tag := List.pairwise_insertionSort ..
  have names : (s.requestsOf h).Pairwise fun a b => ¬(a.owner = b.owner ∧ a.tag = b.tag) :=
    ok.named.sublist List.filter_sublist
  replace names := (byTag_perm (s.requestsOf h)).symm.pairwise names
    fun {a b} other same => other ⟨same.1.symm, same.2.symm⟩
  have owned : ∀ r ∈ byTag (s.requestsOf h), r.owner = h := fun r here => by
    have inTable := (byTag_perm _).mem_iff.mp here
    simpa using List.of_mem_filter inTable
  refine (order.and names).imp_of_mem fun {a b} inA inB ⟨le, other⟩ => lt_of_le_of_ne le fun same => ?_
  exact other ⟨(owned a inA).trans (owned b inB).symm, same⟩

/-- Those above the last one listed are the rest. -/
theorem countP_above {sorted : List Request} (ascending : sorted.Pairwise fun a b => a.tag < b.tag) (start : Nat)
    {listed rest : List Request} (split : sorted.filter (fun r => start ≤ r.tag) = listed ++ rest) :
    (∀ last, listed.getLast? = some last → sorted.countP (fun r => decide (last.tag < r.tag)) = rest.length) := by
  intro last isLast
  have inListed : last ∈ listed := List.mem_of_getLast? isLast
  have fromStart : start ≤ last.tag := by
    have here : last ∈ sorted.filter (fun r => start ≤ r.tag) := split ▸ List.mem_append_left _ inListed
    simpa using List.of_mem_filter here
  have filtered := ascending.filter fun r => decide (start ≤ r.tag)
  rw [split, List.pairwise_append] at filtered
  obtain ⟨inOrder, -, before⟩ := filtered
  have none : listed.countP (fun r => decide (last.tag < r.tag)) = 0 := by
    rw [List.countP_eq_zero]
    intro r here
    obtain ⟨front, rfl⟩ := List.getLast?_eq_some_iff.mp isLast
    rcases List.mem_append.mp here with inFront | isSame
    · have less := (List.pairwise_append.mp inOrder).2.2 r inFront last (by simp)
      simpa using less.le
    · simp_all
  have all : rest.countP (fun r => decide (last.tag < r.tag)) = rest.length :=
    List.countP_eq_length.mpr fun r here => by simpa using before last inListed r here
  calc sorted.countP (fun r => decide (last.tag < r.tag))
      = (sorted.filter fun r => start ≤ r.tag).countP fun r => decide (last.tag < r.tag) := by
        rw [List.countP_filter]
        refine List.countP_congr fun r _ => ?_
        simp only [decide_eq_true_eq, Bool.and_eq_true]
        omega
    _ = rest.length := by rw [split, List.countP_append, none, all, Nat.zero_add]

/-- The number of requests with tags above the last one listed. -/
def aboveListed (requests listed : List Request) : Nat :=
  match listed.getLast? with
  | some last => requests.countP fun r => last.tag < r.tag
  | none => 0

theorem listResults_listed (requests : List Request) (start : Nat) :
    listResults requests start =
      let listed := ((byTag requests).filter fun r => start ≤ r.tag).take 29
      beBytes 1 listed.length ++ beBytes 1 (aboveListed requests listed)
        ++ listed.flatMap fun r => beBytes 1 r.tag ++ beBytes 1 r.state.code := rfl

/-- What LIST_REQUESTS answers: the lowest tags from the start on, and how many follow them. -/
theorem listResults_eq {s : State} (ok : RequestsOk s) (h : HostId) (start : Nat) :
    ∃ listed rest : List Request,
      (listed ++ rest).Perm (s.requests.table.filter fun r => r.owner == h && decide (start ≤ r.tag)) ∧
      (listed ++ rest).Pairwise (fun a b => a.tag < b.tag) ∧
      listed.length = min 29 (listed ++ rest).length ∧
      listResults (s.requestsOf h) start =
        [BitVec.ofNat 8 listed.length, BitVec.ofNat 8 rest.length]
          ++ listed.flatMap fun r => [BitVec.ofNat 8 r.tag, stateByte r.state] := by
  have ascending := byTag_ascending ok h
  have perm := byTag_perm (s.requestsOf h)
  generalize whole : (byTag (s.requestsOf h)).filter (fun r => start ≤ r.tag) = candidates
  have split : (byTag (s.requestsOf h)).filter (fun r => start ≤ r.tag) = candidates.take 29 ++ candidates.drop 29 := by
    rw [whole, List.take_append_drop]
  refine ⟨candidates.take 29, candidates.drop 29, ?_, ?_, ?_, ?_⟩
  · rw [← split]
    refine (perm.filter _).trans (.of_eq ?_)
    rw [State.requestsOf, List.filter_filter]
    exact List.filter_congr fun r _ => Bool.and_comm ..
  · rw [← split]
    exact ascending.filter _
  · rw [List.take_append_drop, List.length_take]
  · have above : aboveListed (s.requestsOf h) (candidates.take 29) = (candidates.drop 29).length := by
      rw [aboveListed]
      cases isLast : (candidates.take 29).getLast? with
      | none =>
        have empty := List.getLast?_eq_none_iff.mp isLast
        rcases candidates with _ | ⟨a, l⟩
        · rfl
        · cases empty
      | some last => exact (perm.countP_eq _).symm.trans (countP_above ascending start split last isLast)
    rw [listResults_listed, whole]
    simp only [above, beBytes_state]
    simp only [beBytes_one]
    rfl

/-- Settles O22: QUERY_REQUEST by the request of the tag, LIST_REQUESTS by the start tag. -/
theorem requestsAreQueriedAndListed : Obligations.RequestsAreQueriedAndListed := by
  constructor
  · intro h cmd s waits
    obtain ⟨detached, attached⟩ := queryRequest_answers h cmd s waits
    refine ⟨detached, fun on fresh => ?_⟩
    obtain ⟨bad, read⟩ := attached on fresh
    refine ⟨bad, fun tag shape low high => ?_⟩
    obtain ⟨unnamed, found⟩ := read tag shape low high
    refine ⟨unnamed, fun r here owner name alone => ?_⟩
    have answers := found r here owner name alone
    rw [requestResults_eq] at answers
    exact answers
  · intro h cmd s waits ok
    refine ⟨fun detached => congrArg _ (takeCommand_detached waits detached _), fun attached fresh => ?_⟩
    have takes : Takes s h .listRequests cmd := ⟨waits, attached, fresh⟩
    refine ⟨fun bad => takes_unread takes (tagArg_eq_none bad), fun start shape low high => ?_⟩
    have runs : exec (.listRequests h) s = .next (Reply.finish h cmd
        (ifRange (tagArg cmd.args) (taken s h .listRequests) fun start =>
          accept (listResults (s.requestsOf h) start) (taken s h .listRequests))) :=
      congrArg _ (takeCommand_takes takes _)
    obtain ⟨listed, rest, perm, ascending, short, results⟩ := listResults_eq ok h start
    refine ⟨listed, rest, perm, ascending, short, ?_⟩
    rw [(tagArg_iff cmd.args start).mpr ⟨shape, low, high⟩, ifRange_some, results, finish_accept] at runs
    exact runs

end Sys2Proof.Proofs

/-! CREATE_PROFILE, and the commands that edit a profile (R28 to R30, R32 to R37, R89, R90). -/

namespace Sys2Proof.Proofs

open Sys2Proof.Machine Sys2Proof.Safety

/-! ### CREATE_PROFILE (R24, R29) -/

theorem lowestFreeId_eq_none {s : State} (full : ∀ id, s.profile id ≠ none) : lowestFreeId s = none :=
  List.find?_eq_none.mpr fun id _ => by simpa using full id

/-- The lowest free id is the one before which every entry holds a profile. -/
theorem lowestFreeId_eq_some {s : State} {id : Fin 16} (free : s.profile id = none)
    (before : ∀ j < id, s.profile j ≠ none) : lowestFreeId s = some id := by
  rw [lowestFreeId, List.find?_eq_some_iff_append]
  refine ⟨by simp [free], (List.finRange 16).take id, (List.finRange 16).drop (id + 1), ?_, fun j here => ?_⟩
  · have split := (List.take_append_drop id.val (List.finRange 16)).symm
    rwa [List.drop_eq_getElem_cons (by simp), List.getElem_finRange] at split
  · obtain ⟨i, less, rfl⟩ := List.mem_iff_getElem.mp here
    rw [List.length_take] at less
    have low : i < id.val := by omega
    have value : ((List.finRange 16).take id.val)[i] = ⟨i, by omega⟩ := by simp
    simpa [value, Option.isSome_iff_ne_none] using before ⟨i, by omega⟩ low

/-- The LIVE profiles of a host, counted as CREATE_PROFILE counts them. -/
theorem profilesOwned_filter (s : State) (h : HostId) :
    s.profilesOwned h =
      (allProfileIds.filter fun id => (s.profile id).any fun p => p.life == .live h).length := by
  rw [State.profilesOwned, List.countP_eq_length_filter]
  refine congrArg List.length (List.filter_congr fun id _ => ?_)
  cases s.profile id <;> rfl

/-- CREATE_PROFILE by the quota and by the room. -/
theorem createProfile_creates (h : HostId) (cmd : Handed) (s : State) (takes : Takes s h .createProfile cmd)
    (bare : cmd.args = []) :
    let s1 := taken s h .createProfile
    ((s.engine.quotas.get h).profiles ≤ s.profilesOwned h →
      exec (.createProfile h) s = .next (answering h cmd .quota [] s1)) ∧
    (s.profilesOwned h < (s.engine.quotas.get h).profiles →
      (lowestFreeId s = none → exec (.createProfile h) s = .next (answering h cmd .tableFull [] s1)) ∧
      ∀ id, lowestFreeId s = some id →
        exec (.createProfile h) s =
          .next
            (answering h cmd .ok (beBytes 1 id.val)
              (s1.setProfile id
                (some (newProfile h s.link.description.width s.link.description.height))))) := by
  have runs : exec (.createProfile h) s =
      .next ((createProfile h cmd (taken s h .createProfile)).finish h cmd) := congrArg _ (takeCommand_takes takes _)
  have lowest : lowestFreeId (taken s h .createProfile) = lowestFreeId s := rfl
  refine ⟨fun full => ?_, fun below => ⟨fun none => ?_, fun id free => ?_⟩⟩
  · simp [runs, createProfile, bare, full]
  · simp [runs, createProfile, bare, below.not_ge, lowest, none]
  · simp [runs, createProfile, bare, below.not_ge, lowest, free]

/-! ### The edits, each said once (R28) -/

section

variable {h : HostId} {id : Fin 16} {s : State} {edit : Profile → Except Status (Option Profile)} {p : Profile}

theorem editProfile_none (free : s.profile id = none) : editProfile h id s edit = refuse .noSuch s := by
  rw [editProfile, free]

theorem editProfile_other (entry : s.profile id = some p) (other : p.life ≠ .live h) :
    editProfile h id s edit = refuse .notOwner s := by
  simp [editProfile, entry, other]

theorem editProfile_ok {q : Option Profile} (entry : s.profile id = some p) (live : p.life = .live h)
    (ok : edit p = .ok q) : editProfile h id s edit = accept [] (s.setProfile id q) := by
  simp [editProfile, entry, live, ok]

theorem editProfile_error {status : Status} (entry : s.profile id = some p) (live : p.life = .live h)
    (bad : edit p = .error status) : editProfile h id s edit = refuse status s := by
  simp [editProfile, entry, live, bad]

end

section

variable {h : HostId} {cmd : Handed} {id : Fin 16} {s : State}

/-- A command that edits a profile, its arguments read. -/
def Edits (h : HostId) (c : CommandCode) (cmd : Handed) (id : Fin 16) (s : State)
    (edit : Profile → Except Status (Option Profile)) : Prop :=
  exec (takingOf h c) s = .next ((editProfile h id (taken s h c) edit).finish h cmd)

theorem deleteProfile_edits (takes : Takes s h .deleteProfile cmd) (read : profileArg cmd.args = some id) :
    Edits h .deleteProfile cmd id s fun p => if p.references ≠ 0 then .error .inUse else .ok none := by
  refine (congrArg Host.Outcome.next (takeCommand_takes takes _)).trans ?_
  rw [deleteProfile, read, ifRange_some]

theorem setExposure_edits {e g : Nat} (takes : Takes s h .setExposure cmd)
    (read : setExposureArgs cmd.args = some (id, e, g)) :
    Edits h .setExposure cmd id s fun p =>
      if p.mode = .manual then .ok (some { p with baseExposure := e, baseGain := g }) else .error .mode := by
  refine (congrArg Host.Outcome.next (takeCommand_takes takes _)).trans ?_
  rw [setExposure, read, ifRange_some]

theorem setLimits_edits {l : Limits} (takes : Takes s h .setLimits cmd) (read : setLimitsArgs cmd.args = some (id, l)) :
    Edits h .setLimits cmd id s fun p =>
      .ok (some { p with
        exposureMin := l.exposureMin, exposureMax := l.exposureMax, gainMin := l.gainMin, gainMax := l.gainMax }) := by
  refine (congrArg Host.Outcome.next (takeCommand_takes takes _)).trans ?_
  rw [setLimits, read, ifRange_some]

theorem setTarget_edits {target tolerance : Nat} (takes : Takes s h .setTarget cmd)
    (read : setTargetArgs cmd.args = some (id, target, tolerance)) :
    Edits h .setTarget cmd id s fun p => .ok (some { p with target := target, tolerance := tolerance }) := by
  refine (congrArg Host.Outcome.next (takeCommand_takes takes _)).trans ?_
  rw [setTarget, read, ifRange_some]

theorem setWindow_edits {w : Window} (takes : Takes s h .setWindow cmd)
    (read : setWindowArgs s.link.description.width s.link.description.height cmd.args = some (id, w)) :
    Edits h .setWindow cmd id s fun p => .ok (some { p with window := w }) := by
  refine (congrArg Host.Outcome.next (takeCommand_takes takes _)).trans ?_
  rw [setWindow, taken_link, read, ifRange_some]

theorem setSteps_edits {steps : List BracketStep} (takes : Takes s h .setSteps cmd)
    (read : setStepsArgs cmd.args = some (id, steps)) :
    Edits h .setSteps cmd id s fun p =>
      if steps.length ≠ p.steps.length ∧ p.references ≠ 0 then .error .inUse
      else .ok (some { p with steps := steps }) := by
  refine (congrArg Host.Outcome.next (takeCommand_takes takes _)).trans ?_
  rw [setSteps, read, ifRange_some]

theorem share_edits {sharing : Sharing} (takes : Takes s h .share cmd)
    (read : shareArgs cmd.args = some (id, sharing)) :
    Edits h .share cmd id s fun p =>
      if sharing = .ownerOnly ∧ p.sharing = .shared ∧ usedByOther s h id then .error .inUse
      else .ok (some { p with sharing := sharing }) := by
  refine (congrArg Host.Outcome.next (takeCommand_takes takes _)).trans ?_
  rw [share, read, ifRange_some]
  rfl

/-- What SET_MODE makes of a profile (the table of R89). -/
def askMode (asked : AskedMode) (p : Profile) : Except Status (Option Profile) :=
  match p.mode with
  | .tuning _ => .error .mode
  | m => .ok (some { p with mode := m.asked asked })

theorem askMode_tuning {asked : AskedMode} {p : Profile} {loop : Loop} (tuning : p.mode = .tuning loop) :
    askMode asked p = .error .mode := by
  rw [askMode, tuning]

theorem askMode_other {asked : AskedMode} {p : Profile} (other : ∀ loop, p.mode ≠ .tuning loop) :
    askMode asked p = .ok (some { p with mode := p.mode.asked asked }) := by
  rw [askMode]
  cases mode : p.mode with
  | tuning loop => exact absurd mode (other loop)
  | manual => rfl
  | auto loop => rfl

theorem setMode_edits {asked : AskedMode} (takes : Takes s h .setMode cmd)
    (read : setModeArgs cmd.args = some (id, asked)) : Edits h .setMode cmd id s (askMode asked) := by
  refine (congrArg Host.Outcome.next (takeCommand_takes takes _)).trans ?_
  rw [setMode, read, ifRange_some]
  rfl

theorem tune_edits (takes : Takes s h .tune cmd) (read : profileArg cmd.args = some id) :
    Edits h .tune cmd id s fun p =>
      if p.mode ≠ .manual then .error .mode
      else if !s.hasActiveUser id then .error .notInUse
      else .ok (some { p with mode := .tuning { converge := 0, tuneFrames := 0 } }) := by
  refine (congrArg Host.Outcome.next (takeCommand_takes takes _)).trans ?_
  rw [tune, read, ifRange_some]
  rfl

variable {c : CommandCode} {edit : Profile → Except Status (Option Profile)} {p : Profile}

theorem Edits.noSuch (edits : Edits h c cmd id s edit) (free : s.profile id = none) :
    exec (takingOf h c) s = .next (answering h cmd .noSuch [] (taken s h c)) := by
  rw [edits, editProfile_none (s := taken s h c) free, finish_refuse]

theorem Edits.notOwner (edits : Edits h c cmd id s edit) (entry : s.profile id = some p) (other : p.life ≠ .live h) :
    exec (takingOf h c) s = .next (answering h cmd .notOwner [] (taken s h c)) := by
  rw [edits, editProfile_other (s := taken s h c) entry other, finish_refuse]

theorem Edits.accepted (edits : Edits h c cmd id s edit) (entry : s.profile id = some p) (live : p.life = .live h)
    {q : Option Profile} (ok : edit p = .ok q) :
    exec (takingOf h c) s = .next (answering h cmd .ok [] ((taken s h c).setProfile id q)) := by
  rw [edits, editProfile_ok (s := taken s h c) entry live ok, finish_accept]

theorem Edits.refused (edits : Edits h c cmd id s edit) (entry : s.profile id = some p) (live : p.life = .live h)
    {status : Status} (bad : edit p = .error status) :
    exec (takingOf h c) s = .next (answering h cmd status [] (taken s h c)) := by
  rw [edits, editProfile_error (s := taken s h c) entry live bad, finish_refuse]

end

/-- Settles O24: the creation, and each edit accepted. -/
theorem profilesAreCreatedAndEdited : Obligations.ProfilesAreCreatedAndEdited := by
  constructor
  · intro h cmd s takes bare
    obtain ⟨full, below⟩ := createProfile_creates h cmd s takes bare
    rw [← profilesOwned_filter]
    refine ⟨full, fun room all => (below room).1 (lowestFreeId_eq_none all), fun room id free before => ?_⟩
    have created := (below room).2 id (lowestFreeId_eq_some free before)
    rw [beBytes_one] at created
    exact created
  · intro h id cmd p s entry live
    refine ⟨fun takes read unused => (deleteProfile_edits takes read).accepted entry live (by simp [unused]),
      fun e g takes read manual => (setExposure_edits takes read).accepted entry live (by simp [manual]),
      fun l takes read => (setLimits_edits takes read).accepted entry live rfl,
      fun target tolerance takes read => (setTarget_edits takes read).accepted entry live rfl,
      fun w takes read => (setWindow_edits takes read).accepted entry live rfl,
      fun steps takes read same => (setSteps_edits takes read).accepted entry live ?_,
      fun sharing takes read alone => (share_edits takes read).accepted entry live ?_,
      fun asked takes read other => ?_,
      fun takes read manual inUse => (tune_edits takes read).accepted entry live ?_⟩
    · rcases same with same | unused
      · simp [same]
      · simp [unused]
    · refine if_neg fun ⟨ownerOnly, wasShared, used⟩ => ?_
      rcases alone with shared | owned | mine
      · rw [ownerOnly] at shared
        cases shared
      · rw [wasShared] at owned
        cases owned
      · obtain ⟨r, here, uses⟩ := List.any_eq_true.mp used
        simp only [Bool.and_eq_true, beq_iff_eq, bne_iff_ne] at uses
        exact uses.2 (mine r here uses.1)
    · refine ((setMode_edits takes read).accepted entry live (askMode_other other)).trans ?_
      cases mode : p.mode <;> cases asked <;> rfl
    · simp [manual, hasActiveUser_iff.mpr inUse]

/-- The command edits a profile, and its arguments name it. -/
def NamesProfile (c : CommandCode) (id : Fin 16) (args : List Byte) (s : State) : Prop :=
  match c with
  | .deleteProfile | .tune => profileArg args = some id
  | .setExposure => ∃ e g, setExposureArgs args = some (id, e, g)
  | .setLimits => ∃ l, setLimitsArgs args = some (id, l)
  | .setTarget => ∃ target tolerance, setTargetArgs args = some (id, target, tolerance)
  | .setWindow => ∃ w, setWindowArgs s.link.description.width s.link.description.height args = some (id, w)
  | .setSteps => ∃ steps, setStepsArgs args = some (id, steps)
  | .share => ∃ sharing, shareArgs args = some (id, sharing)
  | .setMode => ∃ asked, setModeArgs args = some (id, asked)
  | _ => False

theorem edits_of_names {h : HostId} {c : CommandCode} {id : Fin 16} {cmd : Handed} {s : State}
    (takes : Takes s h c cmd) (names : NamesProfile c id cmd.args s) : ∃ edit, Edits h c cmd id s edit := by
  cases c
  case deleteProfile => exact ⟨_, deleteProfile_edits takes names⟩
  case tune => exact ⟨_, tune_edits takes names⟩
  case setExposure => obtain ⟨e, g, read⟩ := names; exact ⟨_, setExposure_edits takes read⟩
  case setLimits => obtain ⟨l, read⟩ := names; exact ⟨_, setLimits_edits takes read⟩
  case setTarget => obtain ⟨target, tolerance, read⟩ := names; exact ⟨_, setTarget_edits takes read⟩
  case setWindow => obtain ⟨w, read⟩ := names; exact ⟨_, setWindow_edits takes read⟩
  case setSteps => obtain ⟨steps, read⟩ := names; exact ⟨_, setSteps_edits takes read⟩
  case share => obtain ⟨sharing, read⟩ := names; exact ⟨_, share_edits takes read⟩
  case setMode => obtain ⟨asked, read⟩ := names; exact ⟨_, setMode_edits takes read⟩
  all_goals exact names.elim

/-- Settles O25: NO_SUCH and NOT_OWNER of every edit, then each edit's own refusal. -/
theorem editsAreRefusedInOrder : Obligations.EditsAreRefusedInOrder := by
  intro h c id cmd s takes names
  replace names : NamesProfile c id cmd.args s := by cases c <;> exact names
  obtain ⟨edit, edits⟩ := edits_of_names takes names
  refine ⟨edits.noSuch, fun p entry => ⟨edits.notOwner entry, fun live => ⟨?_, ?_, ?_, ?_, ?_, ?_, ?_⟩⟩⟩
  · rintro rfl used
    exact (deleteProfile_edits takes names).refused entry live (if_pos used)
  · rintro rfl other
    obtain ⟨e, g, read⟩ := names
    exact (setExposure_edits takes read).refused entry live (if_neg other)
  · rintro steps rfl read other used
    exact (setSteps_edits takes read).refused entry live (if_pos ⟨other, used⟩)
  · rintro rfl read shared ⟨r, here, uses, other⟩
    have used : usedByOther s h id = true := List.any_eq_true.mpr ⟨r, here, by simp [uses, other]⟩
    exact (share_edits takes read).refused entry live (if_pos ⟨rfl, shared, used⟩)
  · rintro loop rfl tuning
    obtain ⟨asked, read⟩ := names
    exact (setMode_edits takes read).refused entry live (askMode_tuning tuning)
  · rintro rfl other
    exact (tune_edits takes names).refused entry live (if_pos other)
  · rintro rfl manual unused
    have none : s.hasActiveUser id = false := by
      rw [← Bool.not_eq_true, hasActiveUser_iff]
      rintro ⟨r, here, uses, active⟩
      rw [unused r here uses] at active
      cases active
    exact (tune_edits takes names).refused entry live (by simp [manual, none])

end Sys2Proof.Proofs

/-! The commands that read and change nothing: READ_PROFILE, GET_CALENDAR_INFO and READ_CONFIG (R31, R65, R165). -/

namespace Sys2Proof.Proofs

open Sys2Proof.Machine Sys2Proof.Safety

/-! ### READ_PROFILE (R31, Table 2-3) -/

/-- The two bytes of a step, 00h where the list has none. -/
def stepBytesAt (steps : List BracketStep) (i : Nat) : List Byte :=
  match steps[i]? with
  | some t => [BitVec.ofInt 8 t.shift, BitVec.ofInt 8 t.offset]
  | none => [0x00, 0x00]

/-- The bytes of a step list, filled up with 00h to `n` steps. -/
theorem padded_steps (n : Nat) (steps : List BracketStep) {zeros : Nat} (enough : 2 * n ≤ zeros) :
    (steps.flatMap BracketStep.bytes ++ List.replicate zeros 0).take (2 * n) =
      (List.range n).flatMap (stepBytesAt steps) := by
  induction n generalizing steps zeros with
  | zero => rfl
  | succ n ih =>
    rw [List.range_succ_eq_map, List.flatMap_cons, List.flatMap_map]
    cases steps with
    | nil =>
      obtain ⟨more, rfl⟩ := Nat.exists_eq_add_of_le' (show 2 ≤ zeros by omega)
      exact congrArg ([0, 0] ++ ·) (ih [] (by omega))
    | cons t steps => exact congrArg (t.bytes ++ ·) (ih steps (by omega))

/-- The owner byte, the life byte and the sharing byte of a profile (Table 2-3). -/
def ownerByte : Life → Byte
  | .live o => BitVec.ofNat 8 o.number
  | .orphaned => 0xFF

def lifeByte : Life → Byte
  | .live _ => 0x00
  | .orphaned => 0x01

def sharingByte : Sharing → Byte
  | .ownerOnly => 0x00
  | .shared => 0x01

def modeByte : Mode → Byte
  | .manual => 0x00
  | .auto _ => 0x01
  | .tuning _ => 0x02

/-- The two bytes of the loop state, all ones in MANUAL (Table 2-3). -/
def loopBytes : Mode → List Byte
  | .manual => [0xFF, 0xFF]
  | .auto l | .tuning l => [BitVec.ofNat 8 l.converge, BitVec.ofNat 8 l.tuneFrames]

theorem profileResults_eq (id : Fin 16) (p : Profile) :
    profileResults id p =
      [BitVec.ofNat 8 id.val, ownerByte p.life, sharingByte p.sharing, lifeByte p.life, modeByte p.mode]
        ++ beBytes 4 p.baseExposure ++ beBytes 2 p.baseGain ++ beBytes 4 p.exposureMin ++ beBytes 4 p.exposureMax
        ++ beBytes 2 p.gainMin ++ beBytes 2 p.gainMax ++ beBytes 2 p.target ++ beBytes 1 p.tolerance
        ++ beBytes 2 p.window.x ++ beBytes 2 p.window.y ++ beBytes 2 p.window.width ++ beBytes 2 p.window.height
        ++ beBytes 1 p.steps.length ++ (List.range 4).flatMap (stepBytesAt p.steps) ++ beBytes 1 p.references
        ++ loopBytes p.mode := by
  have padded := padded_steps 4 p.steps (le_refl 8)
  unfold profileResults
  simp only [Nat.reduceMul] at padded
  simp only [padded, beBytes_one]
  cases p.life <;> cases p.sharing <;> cases p.mode <;>
    simp only [ownerByte, lifeByte, sharingByte, modeByte, loopBytes, Mode.code, Mode.loop, List.cons_append,
      List.nil_append] <;> rfl

/-- READ_PROFILE by its port, its arguments and the entry. -/
theorem readProfile_answers (h : HostId) (cmd : Handed) (s : State)
    (waits : (s.port h).waitingCommand .readProfile = some cmd) :
    let refused := fun status =>
      exec (.readProfile h) s = .next (answering h cmd status [] (taken s h .readProfile))
    ((s.port h).attached = false ∨ cmd.stale = true → refused .notAttached) ∧
    ((s.port h).attached = true → cmd.stale = false →
      (¬(∃ id : Fin 16, cmd.args = [BitVec.ofNat 8 id.val]) → refused .range) ∧
      ∀ id : Fin 16, cmd.args = [BitVec.ofNat 8 id.val] →
        (s.profile id = none → refused .noSuch) ∧
        ∀ p, s.profile id = some p →
          exec (.readProfile h) s =
            .next (answering h cmd .ok (profileResults id p) (taken s h .readProfile))) := by
  refine ⟨fun detached => congrArg _ (takeCommand_detached waits detached _), fun attached fresh => ?_⟩
  have takes : Takes s h .readProfile cmd := ⟨waits, attached, fresh⟩
  have runs : exec (.readProfile h) s = .next ((readProfile cmd (taken s h .readProfile)).finish h cmd) :=
    congrArg _ (takeCommand_takes takes _)
  refine ⟨fun bad => takes_unread takes ?_, fun id shape => ⟨fun free => ?_, fun p entry => ?_⟩⟩
  · refine Option.eq_none_iff_forall_ne_some.mpr fun id read => bad ⟨id, ?_⟩
    rw [(profileArg_iff cmd.args id).mp read, beBytes_one]
  · have read := (profileArg_iff cmd.args id).mpr (by rw [shape, beBytes_one])
    simp [runs, readProfile, read, free]
  · have read := (profileArg_iff cmd.args id).mpr (by rw [shape, beBytes_one])
    simp [runs, readProfile, read, entry]

/-! ### GET_CALENDAR_INFO (R65, Table 3-3) -/

/-- The four bytes of the builder and its shadow (Table 3-3). -/
def builderBytes : Builder → List Byte
  | .idle => [0x00, 0x00, 0xFF, 0xFF]
  | .building _ stale _ => [0x01, if stale then 0x01 else 0x00, 0xFF, 0xFF]
  | .ready sh => [0x02, 0x00, BitVec.ofNat 8 sh.slots.length, BitVec.ofNat 8 sh.unplaced]

/-- The number of live requests in a state, as one byte. -/
def countedByte (s : State) (states : RequestState → Bool) : Byte :=
  BitVec.ofNat 8 (s.requests.table.filter fun r => states r.state).length

theorem countedByte_eq {s : State} {code : Nat} {states : RequestState → Bool}
    (same : ∀ x : RequestState, (x.code == code) = states x) :
    beBytes 1 (s.requests.table.countP fun r => r.state.code == code) = [countedByte s states] := by
  rw [beBytes_one, List.countP_eq_length_filter, countedByte]
  simp only [same]

theorem calendarResults_eq (s : State) :
    calendarResults s =
      beBytes 2 s.calendar.generation.toNat
        ++ [BitVec.ofNat 8 s.calendar.active.length,
          BitVec.ofNat 8 (s.calendar.active.filter fun slot => slot != .idle).length]
        ++ builderBytes s.calendar.builder
        ++ [countedByte s fun x => x == .pending, countedByte s fun x => x == .waiting,
          countedByte s fun x => x.isActive, countedByte s fun x => x == .suspended] := by
  have assigned : s.calendar.active.countP Slot.isAssigned =
      (s.calendar.active.filter fun slot => slot != .idle).length := by
    rw [List.countP_eq_length_filter]
    exact congrArg List.length (List.filter_congr fun slot _ => by cases slot <;> rfl)
  unfold calendarResults
  simp only [countedByte_eq (code := 0) (states := fun x => x == .pending) fun x => by cases x <;> rfl,
    countedByte_eq (code := 1) (states := fun x => x == .waiting) fun x => by cases x <;> rfl,
    countedByte_eq (code := 2) (states := fun x => x.isActive) fun x => by cases x <;> rfl,
    countedByte_eq (code := 3) (states := fun x => x == .suspended) fun x => by cases x <;> rfl, assigned]
  cases s.calendar.builder with
  | idle => simp [builderBytes, Builder.code, bit]
  | building _ stale _ => cases stale <;> simp [builderBytes, Builder.code, bit]
  | ready sh => simp [builderBytes, Builder.code, bit]

/-! ### READ_CONFIG (R165) -/

theorem configResults_eq (s : State) :
    let d := s.link.description
    let entry := fun e : MapEntry => beBytes 2 e.register.toNat ++ [BitVec.ofNat 8 e.count]
    let quotas := fun q : Quota => [BitVec.ofNat 8 q.requests, BitVec.ofNat 8 q.profiles]
    configResults s =
      beBytes 4 s.engine.slotPeriod ++ beBytes 2 s.engine.claimExpiry ++ beBytes 1 d.address.toNat
        ++ beBytes 2 d.width ++ beBytes 2 d.height ++ beBytes 4 d.readout ++ beBytes 4 d.lineTime
        ++ entry s.link.map.exposure ++ entry s.link.map.gain ++ entry s.link.map.cropX ++ entry s.link.map.cropY
        ++ entry s.link.map.cropW ++ entry s.link.map.cropH ++ quotas s.engine.quotas.h0 ++ quotas s.engine.quotas.h1
        ++ quotas s.engine.quotas.h2 ++ quotas s.engine.quotas.h3 := by
  simp only [configResults, allKinds, allHosts, MapEntry.bytes, Quota.bytes, beBytes_one, List.flatMap_cons,
    List.flatMap_nil, PerKind.get, PerHost.get, List.append_nil, List.append_assoc, List.cons_append, List.nil_append]

/-- Settles O26: the three reading commands. -/
theorem readCommandsAnswerTheirBytes : Obligations.ReadCommandsAnswerTheirBytes := by
  refine ⟨fun h cmd s waits => ?_, fun h cmd s waits => ?_, fun h cmd s waits => ?_⟩
  · obtain ⟨detached, attached⟩ := readProfile_answers h cmd s waits
    refine ⟨detached, fun on fresh => ?_⟩
    obtain ⟨bad, read⟩ := attached on fresh
    refine ⟨bad, fun id shape => ?_⟩
    obtain ⟨free, taken⟩ := read id shape
    refine ⟨free, fun p entry => ?_⟩
    have answers := taken p entry
    rw [profileResults_eq] at answers
    exact answers
  · refine ⟨fun detached => congrArg _ (takeCommand_detached waits detached _), fun attached fresh => ?_⟩
    have takes : Takes s h .getCalendarInfo cmd := ⟨waits, attached, fresh⟩
    refine ⟨fun more => takes_unread takes more, fun bare => ?_⟩
    have runs : exec (.getCalendarInfo h) s = .next (Reply.finish h cmd
        (ifRange (noArgs cmd.args) (taken s h .getCalendarInfo) fun _ =>
          accept (calendarResults s) (taken s h .getCalendarInfo))) := congrArg _ (takeCommand_takes takes _)
    rw [bare, noArgs_nil, ifRange_some, calendarResults_eq, finish_accept] at runs
    exact runs
  · refine ⟨fun detached => congrArg _ (takeCommand_detached waits detached _), fun attached fresh => ?_⟩
    have takes : Takes s h .readConfig cmd := ⟨waits, attached, fresh⟩
    refine ⟨fun more => takes_unread takes more, fun bare => ?_⟩
    have runs : exec (.readConfig h) s = .next (Reply.finish h cmd
        (ifRange (noArgs cmd.args) (taken s h .readConfig) fun _ =>
          accept (configResults s) (taken s h .readConfig))) := congrArg _ (takeCommand_takes takes _)
    rw [bare, noArgs_nil, ifRange_some, configResults_eq, finish_accept] at runs
    exact runs

end Sys2Proof.Proofs

/-! REBUILD, READ_SLOT and the end of a build (R53, R63, R64). -/

namespace Sys2Proof.Proofs

open Sys2Proof.Machine Sys2Proof.Safety

/-- The byte of the builder state (R63). -/
def builderByte : Builder → Byte
  | .idle => 0
  | .building _ _ _ => 1
  | .ready _ => 2

theorem beBytes_builder (b : Builder) : beBytes 1 b.code = [builderByte b] := by
  rw [beBytes_one]
  cases b <;> rfl

theorem readSlotOf_out {generation : BitVec 16} {slots : List Slot} {index : Nat} (out : slots.length ≤ index)
    (s : State) : readSlotOf generation slots index s = refuse .range s := by
  rw [readSlotOf, List.getElem?_eq_none out]

/-- A slot read from a calendar (Table 3-2). -/
theorem readSlotOf_entry {generation : BitVec 16} {slots : List Slot} {index : Nat} {slot : Slot}
    (entry : slots[index]? = some slot) (s : State) :
    readSlotOf generation slots index s = accept (slotResults generation slots.length index slot) s := by
  rw [readSlotOf, entry]

/-- READ_SLOT, its arguments read. -/
theorem exec_readSlot {h : HostId} {cmd : Handed} {s : State} {shadow : Bool} {index : Nat}
    (takes : Takes s h .readSlot cmd) (read : readSlotArgs cmd.args = some (shadow, index)) :
    exec (.readSlot h) s = .next ((readSlot cmd (taken s h .readSlot)).finish h cmd) ∧
      (shadow = false → readSlot cmd (taken s h .readSlot) =
        readSlotOf s.calendar.generation s.calendar.active index (taken s h .readSlot)) ∧
      (∀ sh, shadow = true → s.calendar.builder = .ready sh → readSlot cmd (taken s h .readSlot) =
        readSlotOf (s.calendar.generation + 1) sh.slots index (taken s h .readSlot)) ∧
      (shadow = true → (∀ sh, s.calendar.builder ≠ .ready sh) →
        readSlot cmd (taken s h .readSlot) = refuse .state (taken s h .readSlot)) := by
  refine ⟨congrArg _ (takeCommand_takes takes _), fun active => ?_, fun sh isShadow ready => ?_, fun isShadow other => ?_⟩
  · simp [readSlot, read, active]
  · simp [readSlot, read, isShadow, ready]
  · rw [readSlot, read, ifRange_some, if_pos isShadow]
    split
    · rename_i sh ready
      exact absurd ready (other sh)
    · rfl

/-- The three answers of READ_SLOT from a calendar. -/
theorem readSlot_entries {h : HostId} {cmd : Handed} {s t : State} {generation : BitVec 16} {slots : List Slot}
    {index : Nat} {c : Instr} (runs : exec c s = .next ((readSlotOf generation slots index t).finish h cmd)) :
    (slots.length ≤ index → exec c s = .next (answering h cmd .range [] t)) ∧
    (slots[index]? = some .idle →
      exec c s =
        .next
          (answering h cmd .ok
            (beBytes 2 generation.toNat ++
              [BitVec.ofNat 8 slots.length, BitVec.ofNat 8 index, 0x00, 0xFF, 0xFF, 0x00])
            t)) ∧
    (∀ profile step subscribers, slots[index]? = some (.assigned profile step subscribers) →
      exec c s =
        .next
          (answering h cmd .ok
            (beBytes 2 generation.toNat ++
              [BitVec.ofNat 8 slots.length, BitVec.ofNat 8 index, 0x01, BitVec.ofNat 8 profile.val,
                BitVec.ofNat 8 step, BitVec.ofNat 8 subscribers.length]
              ++ subscribers.flatMap fun p => [BitVec.ofNat 8 p.host.number, BitVec.ofNat 8 p.tag])
            t)) := by
  refine ⟨fun out => ?_, fun idle => ?_, fun profile step subscribers assigned => ?_⟩
  · rw [runs, readSlotOf_out out, finish_refuse]
  · rw [runs, readSlotOf_entry idle, finish_accept, slotResults]
    simp
  · rw [runs, readSlotOf_entry assigned, finish_accept, slotResults]
    simp

/-- Settles O28: REBUILD, and READ_SLOT by its calendar. -/
theorem rebuildTriggersAndSlotsAreRead : Obligations.RebuildTriggersAndSlotsAreRead := by
  intro h cmd s
  refine ⟨fun takes bare => ?_, fun shadow index takes read => ?_⟩
  · have runs : exec (.rebuild h) s = .next ((rebuild cmd (taken s h .rebuild)).finish h cmd) :=
      congrArg _ (takeCommand_takes takes _)
    rw [rebuild, bare, noArgs_nil, ifRange_some, finish_accept, beBytes_builder, trigger_eq] at runs
    exact runs
  · obtain ⟨runs, active, ready, other⟩ := exec_readSlot takes read
    refine ⟨fun isActive => ?_, fun sh isShadow isReady => ?_, fun isShadow none => ?_⟩
    · exact readSlot_entries (active isActive ▸ runs)
    · exact readSlot_entries (ready sh isShadow isReady ▸ runs)
    · rw [runs, other isShadow none, finish_refuse]

/-! ### The end of a build (R53) -/

theorem ownsCandidate_iff {s : State} {snap : List Candidate} {g : HostId} :
    ownsCandidate s snap g = true ↔ ∃ c ∈ snap, c.owner = g ∧
      ∃ r ∈ s.requests.table, r.owner = g ∧ r.tag = c.tag ∧ r.sequence = c.sequence := by
  simp [ownsCandidate, Request.named, and_assoc]

/-- A notice posted to those of some hosts, each once, that a test picks. -/
theorem foldl_post_port (tells : HostId → Bool) (n : Notice) (hosts : List HostId) (distinct : hosts.Nodup) (s : State)
    (g : HostId) :
    (hosts.foldl (fun t h => if tells h then postNotice h n t else t) s).port g =
      if g ∈ hosts ∧ tells g = true then posted n (s.port g) else s.port g := by
  induction hosts generalizing s with
  | nil => simp
  | cons h rest ih =>
    obtain ⟨notIn, distinct⟩ := List.nodup_cons.mp distinct
    rw [List.foldl_cons, ih distinct]
    by_cases same : g = h
    · subst same
      by_cases tells' : tells g = true
      · simp [notIn, tells', postNotice_port]
      · simp [notIn, tells']
    · by_cases tells' : tells h = true
      · simp [same, tells', postNotice_port]
      · simp [same, tells']

theorem foldl_post_touches (tells : HostId → Bool) (n : Notice) (hosts : List HostId) (s : State) :
    hosts.foldl (fun t h => if tells h then postNotice h n t else t) s =
      { s with ports := (hosts.foldl (fun t h => if tells h then postNotice h n t else t) s).ports } := by
  induction hosts generalizing s with
  | nil => rfl
  | cons h rest ih =>
    rw [List.foldl_cons, ih]
    split
    · rw [postNotice_eq]
      rfl
    · rfl

/-- Settles O29: the end of a build by its stale mark. -/
theorem buildCompleteEndsOrRestartsTheBuild : Obligations.BuildCompleteEndsOrRestartsTheBuild := by
  intro snap stale left s building
  refine ⟨fun isStale => ?_, fun clean => ?_⟩
  · simp [exec, execBuildComplete, building, isStale, beginBuild, buildTime]
  · have runs : exec .buildComplete s = .next (buildReady snap s) := by
      simp [exec, execBuildComplete, building, clean]
    let n : Notice :=
      { kind := .rebuildDone, subject := (s.calendar.generation + 1).toNat, detail := (buildShadow snap).slots.length }
    let ready : State := { s with calendar := { s.calendar with builder := .ready (buildShadow snap) } }
    have port := foldl_post_port (ownsCandidate s snap) n allHosts (by decide) ready
    refine ⟨(buildReady snap s).ports, runs.trans (congrArg _ (foldl_post_touches ..)), fun g => ?_⟩
    have port : (buildReady snap s).ports.get g =
        if ownsCandidate s snap g = true then posted n (s.port g) else s.port g :=
      (port g).trans (if_congr (by simp [mem_allHosts]) rfl rfl)
    rw [port, posted]
    refine ⟨fun untold => ?_, fun ⟨attached, owns⟩ => ?_⟩
    · split
      · rename_i owns
        exact if_neg fun attached => untold ⟨attached, ownsCandidate_iff.mp owns⟩
      · rfl
    · rw [if_pos (ownsCandidate_iff.mpr owns), if_pos attached]

end Sys2Proof.Proofs

/-! FETCH_RECORD and ACK_RECORD, and the records composed at a close (R130 to R135). -/

namespace Sys2Proof.Proofs

open Sys2Proof.Machine Sys2Proof.Safety

/-! ### FETCH_RECORD (R134, Table 8-2) -/

/-- The tag bytes of a record, filled up with 00h to `n` tags. -/
theorem padded_tags (n : Nat) (tags : List Nat) {zeros : Nat} (enough : n ≤ zeros) :
    (tags.flatMap (beBytes 1) ++ List.replicate zeros 0).take n =
      (List.range n).map fun i => BitVec.ofNat 8 (tags[i]?.getD 0) := by
  induction n generalizing tags zeros with
  | zero => rfl
  | succ n ih =>
    rw [List.range_succ_eq_map, List.map_cons, List.map_map]
    cases tags with
    | nil =>
      obtain ⟨more, rfl⟩ := Nat.exists_eq_add_of_le' (show 1 ≤ zeros by omega)
      exact congrArg (0 :: ·) (ih [] (by omega))
    | cons t tags =>
      rw [List.flatMap_cons, beBytes_one]
      exact congrArg (BitVec.ofNat 8 t :: ·) (ih tags (by omega))

/-- The byte of the drop reason (Table 8-2). -/
def reasonByte : FrameOutcome → Byte
  | .normal => 0
  | .dropped .late => 1
  | .dropped .link => 2
  | .dropped .stall => 3
  | .dropped .halt => 4

theorem beBytes_reason (o : FrameOutcome) : beBytes 1 o.reasonCode = [reasonByte o] := by
  rw [beBytes_one]
  rcases o with _ | r
  · rfl
  · cases r <;> rfl

/-- The byte of the lost count, 00h where it is absent (Table 8-2). -/
def lostByte : Option Nat → Byte
  | some n => BitVec.ofNat 8 n
  | none => 0

theorem beBytes_lost (lost : Option Nat) : beBytes 1 (lost.getD 0) = [lostByte lost] := by
  rw [beBytes_one]
  cases lost <;> rfl

theorem isDropped_eq (o : FrameOutcome) : o.isDropped = (o != .normal) := by cases o <;> rfl

/-- The statistics of a record, all ones where they are absent (Table 8-2). -/
def statisticsOf : Option Statistics → List Byte
  | some x =>
    beBytes 2 x.mean ++ (List.finRange 8).flatMap (fun i => beBytes 2 x.histogram[i]) ++ beBytes 2 x.clipShare
  | none => List.replicate 20 0xFF

theorem statisticsBytes_eq (x : Option Statistics) : statisticsBytes x = statisticsOf x := by
  cases x with
  | none => rfl
  | some x =>
    have bins : x.histogram.toList = (List.finRange 8).map fun i => x.histogram[i] :=
      List.ext_getElem (by simp) fun i _ _ => by simp
    rw [statisticsBytes, bins, List.flatMap_map]
    rfl

theorem recordResults_eq (inQueue : Nat) (r : Record) :
    let flag := fun (b : Bool) (value : Nat) => if b then value else 0
    recordResults inQueue r =
      [BitVec.ofNat 8 inQueue] ++ beBytes 4 r.frameNumber.toNat ++ beBytes 2 r.generation.toNat
        ++ [BitVec.ofNat 8 r.slotIndex, BitVec.ofNat 8 r.profile.val, BitVec.ofNat 8 r.stepIndex,
          BitVec.ofNat 8 r.tags.length]
        ++ (List.range 4).map (fun i => BitVec.ofNat 8 (r.tags[i]?.getD 0))
        ++ beBytes 4 r.exposure ++ beBytes 2 r.gain
        ++ [BitVec.ofNat 8
              (flag (r.outcome != .normal) 1 + flag r.clamped 2 + flag r.sizeMismatch 4 + flag r.tuning 8
                + flag r.lost.isSome 16), reasonByte r.outcome, lostByte r.lost]
        ++ statisticsOf r.statistics ++ beBytes 4 r.arrival.toNat := by
  intro flag
  have flags : recordFlags r = flag (r.outcome != .normal) 1 + flag r.clamped 2 + flag r.sizeMismatch 4
      + flag r.tuning 8 + flag r.lost.isSome 16 := by
    rw [recordFlags, isDropped_eq]
    rfl
  simp only [recordResults, padded_tags 4 r.tags (le_refl 4), beBytes_reason, beBytes_lost, flags, statisticsBytes_eq]
  simp only [beBytes_one, List.append_assoc, List.cons_append, List.nil_append]

/-! ### The order of frame numbers (R130) -/

theorem higher_iff_above {a b : BitVec 32} : higher a b = true ↔ Above a b := by
  rw [higher, Above]
  by_cases zero : a = 0
  · rw [if_pos zero]
    exact iff_of_false Bool.false_ne_true fun ⟨other, _⟩ => other zero
  · rw [if_neg zero, and_iff_right zero]
    by_cases first : b = 0
    · rw [if_pos first]
      exact iff_of_true rfl (.inl first)
    · rw [if_neg first, or_iff_right first, Bool.and_eq_true, decide_eq_true_eq, decide_eq_true_eq]

/-! ### ACK_RECORD (R21, R135) -/

/-- An acknowledgement report sets the misses of the requests it names to 0, and changes nothing else. -/
theorem acknowledgementReport_eq (h : HostId) (tags : List Nat) (s : State) :
    acknowledgementReport h tags s =
      { s with
        requests :=
          { s.requests with
            table := s.requests.table.map fun q => if q.owner = h ∧ q.tag ∈ tags then { q with misses := 0 } else q } } := by
  induction tags generalizing s with
  | nil => simp [acknowledgementReport]
  | cons tag tags ih =>
    rw [acknowledgementReport, List.foldl_cons]
    refine (ih _).trans ?_
    rw [State.updateRequest, State.setTable]
    simp only [List.map_map]
    congr 2
    refine List.map_congr_left fun q _ => ?_
    by_cases named : q.named h tag = true
    · obtain ⟨owner, name⟩ := named_iff.mp named
      simp [named, owner, name]
    · have other := mt named_iff.mpr named
      simp only [Function.comp, if_neg named, List.mem_cons]
      refine if_congr ?_ rfl rfl
      tauto

/-- What ACK_RECORD says of a number that is not the head's. -/
theorem notHead_eq (m : Mailbox) (number : BitVec 32) :
    let expired := (∀ r ∈ m.queue, r.frameNumber ≠ number) ∧ ¬Above number m.lastDiscarded
    (expired → notHead m number = .expired) ∧
    (¬expired → m.queue = [] → notHead m number = .empty) ∧
    (¬expired → m.queue ≠ [] → notHead m number = .sequence) := by
  intro expired
  have test : (!m.queue.any (·.frameNumber == number) && !higher number m.lastDiscarded) = true ↔ expired := by
    rw [Bool.and_eq_true, Bool.not_eq_true', ← Bool.not_eq_true, Bool.not_eq_true', ← Bool.not_eq_true,
      higher_iff_above]
    simp [expired]
  refine ⟨fun is => ?_, fun no empty => ?_, fun no some => ?_⟩
  · rw [notHead, if_pos (test.mpr is)]
  · rw [notHead, if_neg (mt test.mp no), if_pos (by simp [empty])]
  · rw [notHead, if_neg (mt test.mp no), if_neg (by simpa using some)]

/-- ACK_RECORD, its number read. -/
theorem ackRecord_not_head {h : HostId} {cmd : Handed} {s : State} {number : BitVec 32}
    (read : ackArg cmd.args = some number) (other : ∀ r ∈ (s.mailbox h).queue.head?, r.frameNumber ≠ number) :
    ackRecord h cmd s = refuse (notHead (s.mailbox h) number) s := by
  rw [ackRecord, read, ifRange_some]
  dsimp only
  cases queue : (s.mailbox h).queue with
  | nil => rfl
  | cons r rest =>
    rw [queue] at other
    exact if_neg (other r rfl)

theorem ackRecord_head {h : HostId} {cmd : Handed} {s : State} {r : Record} {rest : List Record}
    (queue : (s.mailbox h).queue = r :: rest) (read : ackArg cmd.args = some r.frameNumber) :
    ackRecord h cmd s =
      accept (beBytes 1 rest.length)
        (acknowledgementReport h r.tags (s.setMailbox h { s.mailbox h with queue := rest })) := by
  rw [ackRecord, read, ifRange_some]
  simp [queue]

theorem ackArg_eq_none {args : List Byte} (length : args.length ≠ 4) : ackArg args = none := by
  simp [ackArg, guardSome, length]

/-- Settles O33: FETCH_RECORD by the queue, ACK_RECORD by the head and the number. -/
theorem headRecordsAreReadAndAcknowledged : Obligations.HeadRecordsAreReadAndAcknowledged := by
  refine ⟨fun h cmd s waits => ?_, fun h cmd s waits => ?_⟩
  · refine ⟨fun detached => congrArg _ (takeCommand_detached waits detached _), fun attached fresh => ?_⟩
    have takes : Takes s h .fetchRecord cmd := ⟨waits, attached, fresh⟩
    have runs : exec (.fetchRecord h) s = .next ((fetchRecord h cmd (taken s h .fetchRecord)).finish h cmd) :=
      congrArg _ (takeCommand_takes takes _)
    refine ⟨fun more => takes_unread takes more, fun bare empty => ?_, fun r rest bare queue => ?_⟩
    · simp [runs, fetchRecord, bare, empty]
    · have answers : exec (.fetchRecord h) s = .next (answering h cmd .ok (recordResults (rest.length + 1) r)
          (taken s h .fetchRecord)) := by
        simp [runs, fetchRecord, bare, queue]
      rw [recordResults_eq] at answers
      exact answers
  · refine ⟨fun detached => congrArg _ (takeCommand_detached waits detached _), fun attached fresh => ?_⟩
    have takes : Takes s h .ackRecord cmd := ⟨waits, attached, fresh⟩
    have runs : exec (.ackRecord h) s = .next ((ackRecord h cmd (taken s h .ackRecord)).finish h cmd) :=
      congrArg _ (takeCommand_takes takes _)
    refine ⟨fun length => takes_unread takes (ackArg_eq_none length), fun number shape => ?_⟩
    have read := (ackArg_iff cmd.args number).mpr shape
    refine ⟨fun r rest queue same => ?_, fun other => ?_⟩
    · subst same
      rw [runs, ackRecord_head (s := taken s h .ackRecord) queue read, finish_accept, acknowledgementReport_eq,
        beBytes_one]
      rfl
    · have answers : exec (.ackRecord h) s =
          .next (answering h cmd (notHead (s.mailbox h) number) [] (taken s h .ackRecord)) := by
        rw [runs, ackRecord_not_head (s := taken s h .ackRecord) read other]
        rfl
      obtain ⟨expired, empty, sequence⟩ := notHead_eq (s.mailbox h) number
      rw [answers]
      exact ⟨fun is => by rw [expired is], fun no none => by rw [empty no none],
        fun no some => by rw [sequence no some]⟩

/-! ### Records composed at a close (R131 to R133) -/

/-- The record of a host that some pair of the list names. -/
theorem composeRecord_offer {c : FrameContext} {outcome : FrameOutcome} {s : State} {h : HostId}
    (some : servedTags s h c.subscribers ≠ []) :
    composeRecord c outcome s h =
      offerRecord h (composedRecord c outcome (servedTags s h c.subscribers)) s := by
  rw [composeRecord]
  split
  · exact absurd ‹_› some
  · rfl

theorem servedTags_eq (s : State) (h : HostId) (subscribers : List Subscriber) :
    servedTags s h subscribers = (subscribers.filter fun p => p.host == h && isLive s p).map (·.tag) := by
  refine congrArg (List.map _) (List.filter_congr fun p _ => ?_)
  by_cases same : p.host = h
  · rw [← same]
    rfl
  · rw [beq_eq_false_iff_ne.mpr same, Bool.false_and, Bool.false_and]

/-- Settles O35: no record, one that joins, or one lost to a full queue. -/
theorem recordsJoinOrAreLost : Obligations.RecordsJoinOrAreLost := by
  intro h c outcome s m tags record
  have served : servedTags s h c.subscribers = tags := servedTags_eq ..
  have statistics : (if outcome.isDropped then none else c.statistics) =
      if outcome = .normal then c.statistics else none := by
    cases outcome <;> simp [FrameOutcome.isDropped]
  refine ⟨fun none => ?_, fun some room => ?_, fun some full => ?_, rfl⟩
  · rw [composeRecord, served, none]
  · rw [composeRecord_offer (by rwa [served]), offerRecord, served]
    refine (if_pos room).trans ?_
    simp only [Mailbox.join, composedRecord, statistics]
    rfl
  · rw [composeRecord_offer (by rwa [served]), offerRecord, served]
    exact if_neg (not_lt.mpr full)

end Sys2Proof.Proofs

/-! The operations of the tables neither read nor change the waiting commands and the record queues; and the holds that
run out (R136, R137). -/

namespace Sys2Proof.Proofs

open Sys2Proof.Machine Sys2Proof.Safety

/-! ### Updates aside of the tables and the ports -/

/-- An update that leaves the ports and the tables, and what they are changed by, aside. -/
structure Aside (u : State → State) : Prop where
  ports : ∀ s, (u s).ports = s.ports
  requests : ∀ s, (u s).requests = s.requests
  profiles : ∀ s, (u s).profiles = s.profiles
  calendar : ∀ s, (u s).calendar = s.calendar
  link : ∀ s, (u s).link = s.link
  engine : ∀ s, (u s).engine = s.engine
  withPorts : ∀ s x, u { s with ports := x } = { u s with ports := x }
  withRequests : ∀ s x, u { s with requests := x } = { u s with requests := x }
  withProfiles : ∀ s x, u { s with profiles := x } = { u s with profiles := x }
  withCalendar : ∀ s x, u { s with calendar := x } = { u s with calendar := x }

theorem aside_setMailbox (h : HostId) (m : Mailbox) : Aside fun s => s.setMailbox h m := by
  constructor <;> intros <;> rfl

/-- The state with another queue of waiting commands. -/
def withQueue (q : List Instr) (s : State) : State := { s with pending := q }

theorem aside_withQueue (q : List Instr) : Aside (withQueue q) := by
  constructor <;> intros <;> rfl

namespace Aside

variable {u : State → State} (aside : Aside u) (s : State)
include aside

theorem port (h : HostId) : (u s).port h = s.port h := by rw [State.port, aside.ports]; rfl

theorem profile (id : Fin 16) : (u s).profile id = s.profile id := by rw [State.profile, aside.profiles]; rfl

theorem request (h : HostId) (tag : Nat) : (u s).request h tag = s.request h tag := by
  rw [State.request, aside.requests]; rfl

theorem requestsOf (h : HostId) : (u s).requestsOf h = s.requestsOf h := by
  rw [State.requestsOf, aside.requests]; rfl

theorem hasActiveUser (id : Fin 16) : (u s).hasActiveUser id = s.hasActiveUser id := by
  rw [State.hasActiveUser, aside.requests]; rfl

theorem anyWaiting : (u s).anyWaiting = s.anyWaiting := by rw [State.anyWaiting, aside.requests]; rfl

theorem setPort (h : HostId) (p : Port) : (u s).setPort h p = u (s.setPort h p) := by
  rw [State.setPort, aside.ports]
  exact (aside.withPorts s _).symm

theorem setTable (table : List Request) : (u s).setTable table = u (s.setTable table) := by
  rw [State.setTable, aside.requests]
  exact (aside.withRequests s _).symm

theorem setProfile (id : Fin 16) (p : Option Profile) : (u s).setProfile id p = u (s.setProfile id p) := by
  rw [State.setProfile, aside.profiles]
  exact (aside.withProfiles s _).symm

theorem updateRequest (h : HostId) (tag : Nat) (f : Request → Request) :
    (u s).updateRequest h tag f = u (s.updateRequest h tag f) := by
  rw [State.updateRequest, aside.setTable, aside.requests]
  rfl

theorem postNotice (h : HostId) (n : Notice) : postNotice h n (u s) = u (postNotice h n s) := by
  rw [postNotice_eq, postNotice_eq, aside.setPort, aside.port]

theorem postToAll (n : Notice) : postToAll n (u s) = u (postToAll n s) := by
  simp only [Machine.postToAll, allHosts, List.foldl_cons, List.foldl_nil, aside.postNotice]

theorem snapshot : snapshot (u s) = snapshot s := by
  simp only [Machine.snapshot, State.stepCount, aside.requests, aside.profile]

theorem trigger : trigger (u s) = u (trigger s) := by
  have built : triggered s.calendar.builder (u s) = triggered s.calendar.builder s := by
    unfold triggered
    rw [aside.snapshot]
  rw [trigger_eq, trigger_eq, aside.calendar, built]
  exact (aside.withCalendar s _).symm

theorem rebuildIfWaiting (left : Bool) : rebuildIfWaiting left (u s) = u (rebuildIfWaiting left s) := by
  rw [Machine.rebuildIfWaiting, Machine.rebuildIfWaiting, aside.anyWaiting, aside.trigger]
  split <;> rfl

theorem leaveCalendar (r : Request) : leaveCalendar r (u s) = u (leaveCalendar r s) := by
  rw [Machine.leaveCalendar, Machine.leaveCalendar]
  split
  · rw [removePair, aside.calendar]
    exact (aside.withCalendar s _).symm
  · rfl

theorem lowerReference (id : Fin 16) : lowerReference id (u s) = u (lowerReference id s) := by
  rw [Machine.lowerReference, Machine.lowerReference, aside.profile]
  cases s.profile id with
  | none => rfl
  | some p =>
    dsimp only
    rw [aside.setProfile, aside.setProfile]
    split <;> rfl

theorem raiseReference (id : Fin 16) : raiseReference id (u s) = u (raiseReference id s) := by
  rw [Machine.raiseReference, Machine.raiseReference, aside.profile]
  cases s.profile id with
  | none => rfl
  | some p => exact aside.setProfile ..

theorem clearEntry (r : Request) : clearEntry r (u s) = u (clearEntry r s) := by
  rw [Machine.clearEntry, aside.requests, aside.setTable, aside.lowerReference]
  rfl

theorem freeEntry (r : Request) : freeEntry r (u s) = u (freeEntry r s) := by
  rw [Machine.freeEntry, aside.leaveCalendar, aside.clearEntry]
  rfl

theorem abortTune (id : Fin 16) : abortTune id (u s) = u (abortTune id s) := by
  rw [Machine.abortTune, Machine.abortTune, aside.profile, aside.hasActiveUser]
  cases s.profile id with
  | none => rfl
  | some p =>
    dsimp only
    rw [aside.setProfile]
    cases p.mode with
    | manual => rfl
    | auto loop => rfl
    | tuning loop =>
      dsimp only
      cases s.hasActiveUser id with
      | true => rfl
      | false =>
        cases p.life with
        | live owner => exact aside.postNotice ..
        | orphaned => rfl

theorem tellLeft (r : Request) : tellLeft r (u s) = u (tellLeft r s) := by
  rw [Machine.tellLeft, Machine.tellLeft, aside.abortTune]
  split <;> rfl

theorem suspend (r : Request) : suspend r (u s) = u (suspend r s) := by
  rw [Machine.suspend, aside.leaveCalendar, aside.updateRequest, aside.postNotice, aside.tellLeft]
  rfl

omit aside s in
/-- A fold of steps that carry a flag beside a state. -/
theorem foldl_flag {α : Type} {f : State × Bool → α → State × Bool}
    (each : ∀ acc a, f (u acc.1, acc.2) a = (u (f acc a).1, (f acc a).2)) (l : List α) (acc : State × Bool) :
    l.foldl f (u acc.1, acc.2) = (u (l.foldl f acc).1, (l.foldl f acc).2) := by
  induction l generalizing acc with
  | nil => rfl
  | cons a rest ih => rw [List.foldl_cons, each, ih, List.foldl_cons]

omit aside s in
theorem foldl {α : Type} {f : State → α → State} (each : ∀ s a, f (u s) a = u (f s a)) (l : List α) (s : State) :
    l.foldl f (u s) = u (l.foldl f s) := by
  induction l generalizing s with
  | nil => rfl
  | cons a rest ih => rw [List.foldl_cons, each, ih, List.foldl_cons]

theorem chargeMiss (h : HostId) (acc : State × Bool) (tag : Nat) :
    chargeMiss h (u acc.1, acc.2) tag = (u (chargeMiss h acc tag).1, (chargeMiss h acc tag).2) := by
  rw [Machine.chargeMiss, Machine.chargeMiss]
  dsimp only
  rw [aside.request]
  cases acc.1.request h tag with
  | none => rfl
  | some r =>
    dsimp only
    rw [aside.updateRequest, aside.suspend]
    split <;> rfl

theorem missReport (h : HostId) (tags : List Nat) : missReport h tags (u s) = u (missReport h tags s) := by
  rw [Machine.missReport, Machine.missReport, foldl_flag (aside.chargeMiss h) tags (s, false)]
  exact aside.rebuildIfWaiting ..

end Aside

/-! ### Holds that run out (R136, R137) -/

/-- The hold of a record has run out under a limit, in ms. -/
def ranOut (s : State) (limit : Nat) (r : Record) : Bool :=
  limit != 0 && decide (limit * 1000 ≤ (s.delivery.clock - r.arrival).toNat)

theorem holdOver_eq (s : State) (limit : Nat) : Record.holdOver limit s.delivery.clock = ranOut s limit := rfl

theorem saturatingSucc_min (n : Nat) (le : n ≤ 255) : saturatingSucc 255 n = min 255 (n + 1) := by
  rw [saturatingSucc]
  split <;> omega

/-- The last discarded frame number takes that of a record, if higher. -/
def noted (last : BitVec 32) (r : Record) : BitVec 32 := if higher r.frameNumber last then r.frameNumber else last

theorem discardRecord_eq (h : HostId) (s : State) (r : Record) (le : (s.mailbox h).pendingLoss ≤ 255) :
    discardRecord h s r =
      missReport h r.tags
        (s.setMailbox h
          { s.mailbox h with
            queue := (s.mailbox h).queue.erase r
            pendingLoss := min 255 ((s.mailbox h).pendingLoss + 1)
            lastDiscarded := noted (s.mailbox h).lastDiscarded r }) := by
  rw [discardRecord, Mailbox.noteLost, saturatingSucc_min _ le]
  rfl

/-- The records that a test picks leave a queue one after another, the first of each kind first. -/
theorem foldl_erase_filter (p : Record → Bool) (queue : List Record) :
    (queue.filter p).foldl List.erase queue = queue.filter fun r => !p r := by
  induction queue with
  | nil => rfl
  | cons r rest ih =>
    by_cases picked : p r = true
    · simp [picked, ih]
    · have kept : ∀ (l q : List Record), (∀ x ∈ l, p x = true) → l.foldl List.erase (r :: q) = r :: l.foldl List.erase q := by
        intro l
        induction l with
        | nil => intros; rfl
        | cons x l ih =>
          intro q all
          have other : r ≠ x := fun same => picked (same ▸ all x (List.mem_cons_self ..))
          rw [List.foldl_cons, List.erase_cons_tail (by simpa using other), ih _ fun y here => all y (List.mem_cons_of_mem _ here),
            List.foldl_cons]
      rw [List.filter_cons_of_neg picked, kept _ _ fun x here => List.of_mem_filter here, ih]
      simp [picked]

/-- A mailbox after the records of a list have been discarded from it. -/
def discardAll (m : Mailbox) (gone : List Record) : Mailbox :=
  { queue := gone.foldl List.erase m.queue
    pendingLoss := min 255 (m.pendingLoss + gone.length)
    lastDiscarded := gone.foldl noted m.lastDiscarded
    holdLimit := m.holdLimit }

/-- Records discarded one after another: their miss reports leave the queue alone. -/
theorem foldl_discardRecord (h : HostId) (gone : List Record) (m : Mailbox) (s : State) (le : m.pendingLoss ≤ 255) :
    gone.foldl (discardRecord h) (s.setMailbox h m) =
      (gone.foldl (fun t r => missReport h r.tags t) s).setMailbox h (discardAll m gone) := by
  induction gone generalizing m s with
  | nil =>
    have same : discardAll m [] = m := by simp [discardAll, le]
    rw [same]
    rfl
  | cons r rest ih =>
    rw [List.foldl_cons, discardRecord_eq h _ r (by simpa using le), State.setMailbox_mailbox_self,
      State.setMailbox_setMailbox, (aside_setMailbox h _).missReport, ih _ _ (Nat.min_le_left ..)]
    congr 1
    simp only [discardAll, List.foldl_cons, List.length_cons, Mailbox.mk.injEq, true_and, and_true]
    omega

/-- Settles O34: the order of frame numbers, SET_HOLD, and the timeout by the first record that has run out. -/
theorem holdsDiscardTheRecordsTheyRunOutOn : Obligations.HoldsDiscardTheRecordsTheyRunOutOn := by
  intro h s le m
  refine ⟨fun a b => higher_iff_above, fun cmd limit takes read => ?_, fun front r rest queue before isOver => ?_,
    fun none => ?_⟩
  · have runs : exec (.setHold h) s =
        .next (answering h cmd .ok (beBytes 1 (m.queue.filter (ranOut s limit)).length)
          ((m.queue.filter (ranOut s limit)).foldl (discardRecord h)
            ((taken s h .setHold).setMailbox h { m with holdLimit := limit }))) := by
      refine (congrArg Host.Outcome.next (takeCommand_takes takes _)).trans ?_
      rw [setHold, read, ifRange_some]
      rfl
    rw [runs, beBytes_one, foldl_discardRecord h _ _ _ (by exact le), discardAll, foldl_erase_filter]
    rfl
  · have overdue : overdueRecord s h = some r := by
      rw [overdueRecord, List.find?_eq_some_iff_append]
      exact ⟨isOver, front, rest, queue, fun x here => by rw [holdOver_eq, show ranOut s (s.mailbox h).holdLimit x = false from before x here]; rfl⟩
    have absent : r ∉ front := fun here => by
      rw [before r here] at isOver
      cases isOver
    have erased : m.queue.erase r = front ++ rest := by
      rw [queue, List.erase_append_right _ absent, List.erase_cons_head]
    have runs : exec (.holdTimeout h) s = .next (discardRecord h s r) := by
      simp [exec, execHoldTimeout, overdue]
    rw [runs, discardRecord_eq h s r le]
    exact congrArg (fun q => Host.Outcome.next (missReport h r.tags (s.setMailbox h
      { m with
        queue := q
        pendingLoss := min 255 (m.pendingLoss + 1)
        lastDiscarded := noted m.lastDiscarded r }))) erased
  · have overdue : overdueRecord s h = Option.none :=
      List.find?_eq_none.mpr fun r here => by
        rw [holdOver_eq, show ranOut s (s.mailbox h).holdLimit r = false from none r here]
        exact Bool.false_ne_true
    simp [exec, execHoldTimeout, overdue]

end Sys2Proof.Proofs

/-! The claim, the configuration and the quotas (R161 to R166). -/

namespace Sys2Proof.Proofs

open Sys2Proof.Machine Sys2Proof.Safety

/-! ### The claim (R161 to R163) -/

theorem not_holdsClaim {s : State} {h : HostId} (other : ¬∃ c, s.engine.claim = some c ∧ c.holder = h) :
    s.holdsClaim h = false := by
  rw [← Bool.not_eq_true, holdsClaim_iff]
  exact other

theorem ifHolder_holds {h : HostId} {s : State} (holds : s.holdsClaim h = true) (run : Reply) :
    ifHolder h s run = run := if_pos holds

theorem ifHolder_other {h : HostId} {s : State} (other : s.holdsClaim h = false) (run : Reply) :
    ifHolder h s run = refuse .notClaimed s := if_neg (by rw [other]; exact Bool.false_ne_true)

/-- Settles O36: CLAIM by the claim as it stands, RELEASE by its holder, and the expiry by its timer. -/
theorem claimIsGivenReleasedAndExpires : Obligations.ClaimIsGivenReleasedAndExpires := by
  intro h cmd s
  refine ⟨fun takes bare => ?_, fun takes bare => ?_, fun c held out => ?_, fun runs => ?_⟩
  · have runs : exec (.claim h) s = .next ((claim h cmd (taken s h .claim)).finish h cmd) :=
      congrArg _ (takeCommand_takes takes _)
    refine ⟨fun mine => ?_, fun c held other => ?_⟩
    · cases held : s.engine.claim with
      | none =>
        simp only [runs, claim, bare, noArgs_nil, ifRange_some, taken_engine, held]
        rfl
      | some c =>
        simp only [runs, claim, bare, noArgs_nil, ifRange_some, taken_engine, held, mine c held, if_true]
        rfl
    · simp [runs, claim, bare, held, other]
  · have runs : exec (.release h) s = .next ((release h cmd (taken s h .release)).finish h cmd) :=
      congrArg _ (takeCommand_takes takes _)
    refine ⟨fun c held mine => ?_, fun other => ?_⟩
    · have holds : (taken s h .release).holdsClaim h = true := holdsClaim_iff.mpr ⟨c, held, mine⟩
      rw [runs, release, bare, noArgs_nil, ifRange_some, ifHolder_holds holds, finish_accept]
      rfl
    · have others : (taken s h .release).holdsClaim h = false :=
        not_holdsClaim fun ⟨c, held, mine⟩ => other c held mine
      rw [runs, release, bare, noArgs_nil, ifRange_some, ifHolder_other others, finish_refuse]
  · simp only [exec, execClaimExpiry, held, out, if_true]
  · cases held : s.engine.claim with
    | none => simp only [exec, execClaimExpiry, held]
    | some c => simp only [exec, execClaimExpiry, held, (runs c held).ne', if_false]

/-! ### The configuration (R116, R164, R166) -/

theorem isStill_iff {e : EngineState} : e.isStill = true ↔ e = .stopped ∨ e = .halted := by
  cases e <;> simp [EngineState.isStill]

theorem not_isStill_iff {e : EngineState} : e.isStill = false ↔ e = .running ∨ e = .stopping := by
  cases e <;> simp [EngineState.isStill]

/-- The sum of a quota with that of one host replaced. -/
theorem quotaSum_set (quotas : PerHost Quota) (g : HostId) (q : Quota) (part : Quota → Nat) :
    quotaSum (quotas.set g q) part =
      (allHosts.map fun x => if x = g then part q else part (quotas.get x)).sum := by
  cases g <;> simp [quotaSum, PerHost.set, PerHost.get, allHosts] <;> omega

/-- SET_QUOTA of the claim holder, its arguments read. -/
theorem setQuota_holder {h : HostId} {cmd : Handed} {g : HostId} {q : Quota} {s : State}
    (takes : Takes s h .setQuota cmd) (read : quotaArgs cmd.args = some (g, q)) (holds : s.holdsClaim h = true) :
    let total := fun part : Quota → Nat =>
      (allHosts.map fun x => if x = g then part q else part (s.engine.quotas.get x)).sum
    let owned := (allProfileIds.filter fun id => (s.profile id).any fun p => p.life == .live g).length
    exec (.setQuota h) s =
      .next
        (Reply.finish h cmd
          (if 32 < total Quota.requests ∨ 16 < total Quota.profiles then refuse .range (taken s h .setQuota)
          else if q.requests < (s.requestsOf g).length ∨ q.profiles < owned then
            refuse .inUse (taken s h .setQuota)
          else
            accept []
              { taken s h .setQuota with
                engine := { s.engine with quotas := s.engine.quotas.set g q } })) := by
  intro total owned
  refine (congrArg Host.Outcome.next (takeCommand_takes takes _)).trans ?_
  rw [setQuota, read, ifRange_some, ifHolder_holds (s := taken s h .setQuota) holds]
  dsimp only
  rw [quotaSum_set, quotaSum_set, taken_profilesOwned, profilesOwned_filter]
  rfl

/-- One item of the configuration takes its value. -/
theorem setItem_eq (h : HostId) (s : State) (item : ConfigItem) :
    setItem h s item =
      { s with
        engine :=
          match item with
          | .slotPeriod v => { s.engine with slotPeriod := v }
          | .claimExpiry v =>
            { s.engine with claimExpiry := v, claim := some { holder := h, timer := v * 1000 } }
          | _ => s.engine
        link :=
          { s.link with
            description :=
              match item with
              | .address v => { s.link.description with address := v }
              | .width v => { s.link.description with width := v }
              | .height v => { s.link.description with height := v }
              | .readout v => { s.link.description with readout := v }
              | .lineTime v => { s.link.description with lineTime := v }
              | _ => s.link.description } } := by
  cases item <;> rfl

theorem replaceEntry_eq (k : ParamKind) (e : MapEntry) (s : State) :
    replaceEntry k e s =
      { s with
        link :=
          { s.link with
            map := s.link.map.set k e
            shadow := if s.link.map.get k = e then s.link.shadow else s.link.shadow.set k none } } := by
  rw [replaceEntry]
  split
  · rename_i same
    have map : s.link.map.set k e = s.link.map := by rw [← same, PerKind.set_get_self]
    rw [map]
  · rfl

/-- Settles O37: the item, the entry and the quotas take the values given. -/
theorem configurationTakesTheValuesGiven : Obligations.ConfigurationTakesTheValuesGiven := by
  intro h cmd c s held mine
  have holds : s.holdsClaim h = true := holdsClaim_iff.mpr ⟨c, held, mine⟩
  refine ⟨fun item takes read still => ?_, fun kind entry takes read still => ?_,
    fun g q takes read requests profiles live owned => ?_⟩
  · refine (congrArg Host.Outcome.next (takeCommand_takes takes _)).trans ?_
    rw [setConfig, read, ifRange_some, ifHolder_holds (s := taken s h .setConfig) holds, taken_engine,
      if_pos (isStill_iff.mpr still), finish_accept, setItem_eq]
    cases item <;> rfl
  · refine (congrArg Host.Outcome.next (takeCommand_takes takes _)).trans ?_
    rw [setMap, read, ifRange_some, ifHolder_holds (s := taken s h .setMap) holds, taken_engine,
      if_pos (isStill_iff.mpr still), finish_accept, replaceEntry_eq]
    rfl
  · rw [setQuota_holder takes read holds, if_neg (not_or.mpr ⟨not_lt.mpr requests, not_lt.mpr profiles⟩),
      if_neg (not_or.mpr ⟨not_lt.mpr live, not_lt.mpr owned⟩), finish_accept]

/-! ### Refusals without the claim, or in the wrong state (R116, R124, R125, R164, R166, R168, R169) -/

section

variable {h : HostId} {cmd : Handed} {s : State}

/-- A command that needs the claim, its arguments read: what it does for the holder. -/
def Claims (h : HostId) (c : CommandCode) (cmd : Handed) (s : State) (run : Reply) : Prop :=
  exec (takingOf h c) s = .next (Reply.finish h cmd (ifHolder h (taken s h c) run))

theorem setConfig_claims {item : ConfigItem} (takes : Takes s h .setConfig cmd)
    (read : configArgs cmd.args = some item) :
    Claims h .setConfig cmd s
      (if s.engine.state.isStill then accept [] (setItem h (taken s h .setConfig) item)
      else refuse .state (taken s h .setConfig)) := by
  refine (congrArg Host.Outcome.next (takeCommand_takes takes _)).trans ?_
  rw [setConfig, read, ifRange_some]
  rfl

theorem setMap_claims {a : ParamKind × MapEntry} (takes : Takes s h .setMap cmd)
    (read : setMapArgs cmd.args = some a) :
    Claims h .setMap cmd s
      (if s.engine.state.isStill then accept [] (replaceEntry a.1 a.2 (taken s h .setMap))
      else refuse .state (taken s h .setMap)) := by
  refine (congrArg Host.Outcome.next (takeCommand_takes takes _)).trans ?_
  rw [setMap, read, ifRange_some]
  rfl

theorem setQuota_claims {a : HostId × Quota} (takes : Takes s h .setQuota cmd)
    (read : quotaArgs cmd.args = some a) : ∃ run, Claims h .setQuota cmd s run := by
  have runs : exec (.setQuota h) s = .next ((setQuota h cmd (taken s h .setQuota)).finish h cmd) :=
    congrArg _ (takeCommand_takes takes _)
  rw [setQuota, read, ifRange_some] at runs
  exact ⟨_, runs⟩

theorem sensorRead_claims {op : DirectOp} (takes : Takes s h .sensorRead cmd)
    (read : sensorReadArgs cmd.args = some op) :
    Claims h .sensorRead cmd s
      (if s.engine.state.isStill then
        acceptPending (handDirect { port := h, serial := cmd.serial, op := op } (taken s h .sensorRead))
      else refuse .busy (taken s h .sensorRead)) := by
  refine (congrArg Host.Outcome.next (takeCommand_takes takes _)).trans ?_
  rw [sensorRead, read, ifRange_some]
  rfl

theorem sensorWrite_claims {op : DirectOp} (takes : Takes s h .sensorWrite cmd)
    (read : sensorWriteArgs cmd.args = some op) :
    Claims h .sensorWrite cmd s
      (if s.engine.state.isStill then
        acceptPending
          (handDirect { port := h, serial := cmd.serial, op := op } (op.forget (taken s h .sensorWrite)))
      else refuse .busy (taken s h .sensorWrite)) := by
  refine (congrArg Host.Outcome.next (takeCommand_takes takes _)).trans ?_
  rw [sensorWrite, read, ifRange_some]
  rfl

/-- What START does for the claim holder with the engine STOPPED or HALTED (R168). -/
def startReply (s : State) : Reply :=
  match configFault s with
  | some cause => { answer := some { status := .configInvalid, results := cause }, state := s }
  | none => accept [] (startEngine s)

theorem start_claims (takes : Takes s h .start cmd) (bare : cmd.args = []) :
    Claims h .start cmd s
      (if s.engine.state.isStill then startReply (taken s h .start) else refuse .state (taken s h .start)) := by
  refine (congrArg Host.Outcome.next (takeCommand_takes takes _)).trans ?_
  rw [start, bare, noArgs_nil, ifRange_some]
  rfl

theorem stop_claims (takes : Takes s h .stop cmd) (bare : cmd.args = []) :
    Claims h .stop cmd s
      (if s.engine.state = .running then stopEngine h cmd.serial (taken s h .stop)
      else refuse .state (taken s h .stop)) := by
  refine (congrArg Host.Outcome.next (takeCommand_takes takes _)).trans ?_
  rw [stop, bare, noArgs_nil, ifRange_some]
  rfl

variable {c : CommandCode} {run : Reply}

theorem Claims.holder (claims : Claims h c cmd s run) (holds : s.holdsClaim h = true) :
    exec (takingOf h c) s = .next (run.finish h cmd) := by
  rw [claims, ifHolder_holds (s := taken s h c) holds]

theorem Claims.other (claims : Claims h c cmd s run) (others : s.holdsClaim h = false) :
    exec (takingOf h c) s = .next (answering h cmd .notClaimed [] (taken s h c)) := by
  rw [claims, ifHolder_other (s := taken s h c) others, finish_refuse]

/-- The command needs the claim, and its arguments are read. -/
def NeedsClaim (c : CommandCode) (args : List Byte) : Prop :=
  match c with
  | .setConfig => ∃ item, configArgs args = some item
  | .setMap => ∃ a, setMapArgs args = some a
  | .setQuota => ∃ a, quotaArgs args = some a
  | .sensorRead => ∃ op, sensorReadArgs args = some op
  | .sensorWrite => ∃ op, sensorWriteArgs args = some op
  | .start | .stop => args = []
  | _ => False

theorem claims_of_needs (takes : Takes s h c cmd) (needs : NeedsClaim c cmd.args) : ∃ run, Claims h c cmd s run := by
  cases c
  case setConfig => obtain ⟨item, read⟩ := needs; exact ⟨_, setConfig_claims takes read⟩
  case setMap => obtain ⟨a, read⟩ := needs; exact ⟨_, setMap_claims takes read⟩
  case setQuota => obtain ⟨a, read⟩ := needs; exact setQuota_claims takes read
  case sensorRead => obtain ⟨op, read⟩ := needs; exact ⟨_, sensorRead_claims takes read⟩
  case sensorWrite => obtain ⟨op, read⟩ := needs; exact ⟨_, sensorWrite_claims takes read⟩
  case start => exact ⟨_, start_claims takes needs⟩
  case stop => exact ⟨_, stop_claims takes needs⟩
  all_goals exact needs.elim

end

/-- Settles O38: NOT_CLAIMED of every command, then each command's own refusal. -/
theorem claimedCommandsAreRefusedInOrder : Obligations.ClaimedCommandsAreRefusedInOrder := by
  intro h c cmd s takes needs
  replace needs : NeedsClaim c cmd.args := by cases c <;> exact needs
  refine ⟨fun others => ?_, fun holds => ?_⟩
  · obtain ⟨run, claims⟩ := claims_of_needs takes needs
    exact claims.other (not_holdsClaim others)
  · replace holds := holdsClaim_iff.mpr holds
    refine ⟨fun which runs => ?_, fun which runs => ?_, fun which runs => ?_, fun g q which read => ?_⟩
    · have busy : ¬s.engine.state.isStill = true := by rw [not_isStill_iff.mpr runs]; exact Bool.false_ne_true
      rcases which with rfl | rfl | rfl
      · obtain ⟨item, read⟩ := needs
        rw [(setConfig_claims takes read).holder holds, if_neg busy, finish_refuse]
      · obtain ⟨a, read⟩ := needs
        rw [(setMap_claims takes read).holder holds, if_neg busy, finish_refuse]
      · rw [(start_claims takes needs).holder holds, if_neg busy, finish_refuse]
    · have busy : ¬s.engine.state.isStill = true := by rw [not_isStill_iff.mpr runs]; exact Bool.false_ne_true
      rcases which with rfl | rfl
      · obtain ⟨op, read⟩ := needs
        rw [(sensorRead_claims takes read).holder holds, if_neg busy, finish_refuse]
      · obtain ⟨op, read⟩ := needs
        rw [(sensorWrite_claims takes read).holder holds, if_neg busy, finish_refuse]
    · subst which
      rw [(stop_claims takes needs).holder holds, if_neg runs, finish_refuse]
    · subst which
      refine ⟨fun exceeded => ?_, fun ⟨requests, profiles⟩ holdsMore => ?_⟩
      · rw [takingOf, setQuota_holder takes read holds, if_pos, finish_refuse]
        by_contra within
        obtain ⟨requests, profiles⟩ := not_or.mp within
        exact exceeded ⟨not_lt.mp requests, not_lt.mp profiles⟩
      · rw [takingOf, setQuota_holder takes read holds,
          if_neg (not_or.mpr ⟨not_lt.mpr requests, not_lt.mpr profiles⟩), if_pos holdsMore, finish_refuse]

end Sys2Proof.Proofs

/-! START, STOP and faults (R68, R83, R84, R168 to R170). -/

namespace Sys2Proof.Proofs

open Sys2Proof.Machine Sys2Proof.Safety

/-! ### START (R168) -/

/-- The first id that a test picks, by the ids before it. -/
theorem find?_allProfileIds {test : Fin 16 → Bool} {id : Fin 16} (picked : test id = true)
    (before : ∀ j < id, test j = false) : allProfileIds.find? test = some id := by
  rw [List.find?_eq_some_iff_append]
  refine ⟨picked, (List.finRange 16).take id, (List.finRange 16).drop (id + 1), ?_, fun j here => ?_⟩
  · have split := (List.take_append_drop id.val (List.finRange 16)).symm
    rwa [List.drop_eq_getElem_cons (by simp), List.getElem_finRange] at split
  · obtain ⟨i, less, rfl⟩ := List.mem_iff_getElem.mp here
    rw [List.length_take] at less
    have low : i < id.val := by omega
    have value : ((List.finRange 16).take id.val)[i] = ⟨i, by omega⟩ := by simp
    simpa [value] using before ⟨i, by omega⟩ low

/-- The window of the profile at an id does not lie in the sensor area (R168). -/
def Outside (s : State) (id : Fin 16) : Prop :=
  ∃ p, s.profile id = some p ∧
    (s.link.description.width < p.window.x + p.window.width ∨
      s.link.description.height < p.window.y + p.window.height)

theorem windowInside_eq_false {s : State} {id : Fin 16} : windowInside s id = false ↔ Outside s id := by
  unfold windowInside Outside
  cases s.profile id with
  | none => simp
  | some p =>
    simp only [Option.some.injEq, exists_eq_left', Bool.and_eq_false_iff, decide_eq_false_iff_not, not_le]

theorem configFault_tooShort {s : State}
    (tooShort : s.engine.slotPeriod < s.link.description.readout + 110) : configFault s = some [0x01, 0xFF] :=
  if_pos tooShort

theorem configFault_outside {s : State} {id : Fin 16}
    (fits : ¬s.engine.slotPeriod < s.link.description.readout + 110) (outside : Outside s id)
    (before : ∀ j < id, ¬Outside s j) : configFault s = some [0x02, BitVec.ofNat 8 id.val] := by
  have lowest : allProfileIds.find? (fun id => !windowInside s id) = some id :=
    find?_allProfileIds (by simpa using windowInside_eq_false.mpr outside) fun j less => by
      simpa [← windowInside_eq_false] using before j less
  rw [configFault, if_neg fits, lowest, Option.map_some, beBytes_one]

theorem configFault_none {s : State} (fits : ¬s.engine.slotPeriod < s.link.description.readout + 110)
    (inside : ∀ id, ¬Outside s id) : configFault s = none := by
  have every : allProfileIds.find? (fun id => !windowInside s id) = none :=
    List.find?_eq_none.mpr fun id _ => by simpa [← windowInside_eq_false] using inside id
  rw [configFault, if_neg fits, every, Option.map_none]

/-- START forgets the shadow, and what a draining transaction would record. -/
theorem forgetShadow_eq (s : State) :
    forgetShadow s =
      { s with
        link :=
          { s.link with
            shadow := ⟨none, none, none, none, none, none⟩
            state :=
              match s.link.state with
              | .draining w => .draining { w with records := none }
              | l => l } } := by
  unfold forgetShadow State.setLinkState
  cases linkState : s.link.state <;> simp only [linkState]

/-- Settles O39: CONFIG_INVALID by the first cause, else the steps of R168 in their order. -/
theorem startTakesUpANewRun : Obligations.StartTakesUpANewRun := by
  intro h cmd c s takes bare held mine still
  have runs : exec (.start h) s = .next ((startReply (taken s h .start)).finish h cmd) := by
    have runs := (start_claims takes bare).holder (holdsClaim_iff.mpr ⟨c, held, mine⟩)
    rwa [if_pos (isStill_iff.mpr still)] at runs
  refine ⟨fun tooShort => ?_, fun id fits outside before => ?_, fun fits inside => ?_⟩
  · rw [runs, startReply, configFault_tooShort (s := taken s h .start) tooShort]
    rfl
  · rw [runs, startReply, configFault_outside (s := taken s h .start) fits outside before]
    rfl
  · rw [runs, startReply, configFault_none (s := taken s h .start) fits inside]
    dsimp only
    rw [finish_accept, startEngine, takeUpRun, postToAll_eq, forgetShadow_eq]
    rfl

/-! ### STOP (R84, R169) -/

/-- Settles O40: STOP by the frame in flight. -/
theorem stopEndsAtOnceOrWaitsForTheFrame : Obligations.StopEndsAtOnceOrWaitsForTheFrame := by
  intro h cmd c s takes bare held mine running
  have runs : exec (.stop h) s = .next ((stopEngine h cmd.serial (taken s h .stop)).finish h cmd) := by
    have runs := (stop_claims takes bare).holder (holdsClaim_iff.mpr ⟨c, held, mine⟩)
    rwa [if_pos running] at runs
  have engine : (abandonNext (taken s h .stop)).engine = s.engine := by rw [abandonNext_touches]; rfl
  refine ⟨fun empty => ?_, fun f placed => ?_⟩
  · rw [runs, stopEngine, taken_sequencer, empty]
    dsimp only
    rw [finish_accept, postToAll_eq, ← engine]
    rfl
  · rw [runs, stopEngine, taken_sequencer, placed]
    dsimp only
    rw [← engine]
    rfl

/-! ### Faults (R83, R170) -/

theorem halt_still {fault : FaultCode} {s : State} (still : ¬runs s) : halt fault s = s := if_neg still

/-- Settles O41: the halt step by step, the waiting STOP answered last. -/
theorem faultsHaltARunningEngine : Obligations.FaultsHaltARunningEngine := by
  intro fault s
  refine ⟨halt_still, fun going => ?_⟩
  let halted : State := { s with engine := { s.engine with fault := fault, state := .halted } }
  have engine : (abandonNext (dropPresent .halt halted)).engine = halted.engine := by
    rw [abandonNext_touches]
    exact (dropPresent_same .halt (s := halted) (nomatch ·)).1
  have present : (abandonNext (dropPresent .halt halted)).sequencer.present = none := by
    rw [abandonNext_touches]
    exact dropPresent_empty .halt halted
  have unfolded : halt fault s =
      answerStop (postToAll { kind := .engineHalted, subject := 0, detail := fault.code }
        (stopTimers (abandonNext (dropPresent .halt halted)))) := if_pos going
  intro s1 s2
  have halts : halt fault s = answerStop { s2 with engine := s1.engine } := by
    rw [unfolded, postToAll_eq]
    cases fault <;> rfl
  refine ⟨congrArg Engine.state engine, congrArg Engine.fault engine, abandonNext_empty _, present,
    fun idle => ?_, fun h serial waits => ?_⟩
  · have idle : s1.engine.stopWaiting = none := (congrArg Engine.stopWaiting engine).trans idle
    rw [halts, answerStop_none (s := { s2 with engine := s1.engine }) idle]
    simp only [s2, ← idle]
  · have waits : s1.engine.stopWaiting = some (h, serial) :=
      (congrArg Engine.stopWaiting engine).trans waits
    have code : beBytes 1 s1.engine.state.code = [0x03] := by
      rw [show s1.engine.state = .halted from congrArg Engine.state engine]
      rfl
    rw [halts, answerStop_some (s := { s2 with engine := s1.engine }) waits, deliverAnswer]
    dsimp only
    rw [code]

end Sys2Proof.Proofs

/-! Setups on the Sensor Link, its transactions and drains, and direct commands (R74, R75, R117 to R126). -/

namespace Sys2Proof.Proofs

open Sys2Proof.Machine Sys2Proof.Safety

/-! ### The write list (R117, R120) -/

theorem fitted_eq_min (count value : Nat) : fitted count value = min value (256 ^ count - 1) := by
  have positive : 0 < 256 ^ count := Nat.pow_pos (by omega)
  unfold fitted
  split <;> omega

/-- A list that takes an image of each element that a test picks. -/
theorem filterMap_picked {α β : Type} {f : α → Option β} {test : α → Bool} {image : α → β}
    (picks : ∀ a, f a = if test a then some (image a) else none) (l : List α) :
    l.filterMap f = (l.filter test).map image := by
  induction l with
  | nil => rfl
  | cons a l ih =>
    cases picked : test a with
    | false => rw [List.filterMap_cons_none (by simp [picks, picked]), ih, List.filter_cons_of_neg (by simp [picked])]
    | true =>
      rw [List.filterMap_cons_some (b := image a) (by simp [picks, picked]), ih, List.filter_cons_of_pos picked,
        List.map_cons]

theorem takeUpSetup_nil {r : SetupRequest} {s : State} (idle : s.link.state = .idle)
    (same : writeList s.link r = []) : takeUpSetup r s = answerSetup r.setup true s := by
  rw [takeUpSetup, same]
  dsimp only [State.setLinkState]
  rw [← idle]

theorem takeUpSetup_cons {r : SetupRequest} {s : State} (differs : writeList s.link r ≠ []) :
    takeUpSetup r s =
      s.setLinkState
        (.setup
          { setup := r.setup, writes := writeList s.link r, retry := false, bus := none, left := 200 }) := by
  unfold takeUpSetup
  split
  · contradiction
  · rename_i listed
    rw [listed]
    rfl

theorem handSetup_idle {r : SetupRequest} {s : State} (idle : s.link.state = .idle) :
    handSetup r s = takeUpSetup r s := by
  rw [handSetup, idle]

/-- Settles O42: the write list kind by kind, and the link by its state. -/
theorem setupsWriteWhatDiffersFromTheShadow : Obligations.SetupsWriteWhatDiffersFromTheShadow := by
  intro r s _ value fits needed writes
  have fitting : ∀ k, fitted (s.link.map.get k).count (registerValue s.link.description.lineTime r k) = fits k :=
    fun k => (fitted_eq_min _ _).trans (by cases k <;> rfl)
  have list : writeList s.link r = writes := by
    refine filterMap_picked (fun k => ?_) allKinds
    rw [neededWrite, fitting]
    by_cases kept : (s.link.map.get k).count = 0 ∨ s.link.shadow.get k = some (fits k)
    · rw [if_pos kept, if_neg (by rcases kept with kept | kept <;> simp [needed, kept])]
    · rw [if_neg kept, if_pos (by simpa [needed] using kept)]
  refine ⟨fun idle none => ?_, fun idle differs => ?_, fun w draining => ?_⟩
  · rw [handSetup_idle idle, takeUpSetup_nil idle (list.trans none)]
  · rw [handSetup_idle idle, takeUpSetup_cons (by rwa [list]), list]
    rfl
  · rw [handSetup, draining]

/-- With no work waiting the link goes to IDLE. -/
theorem linkIdle_none {s : State} (waits : s.link.waiting = none) : linkIdle s = s.setLinkState .idle := by
  rw [linkIdle, waits]

/-! ### The answer and the end of a setup (R74, R75, R123) -/

theorem answerSetup_named {f : NextFrame} {s : State} (next : s.sequencer.next = some f)
    (inSetup : f.state = .setup) (complete : Bool) :
    answerSetup f.setup complete s = s.setNext (some (f.answered complete)) := by
  rw [answerSetup, next]
  exact if_pos ⟨inSetup, rfl⟩

theorem answerSetup_ignored {setup : Nat} {complete : Bool} {s : State}
    (other : ∀ f, s.sequencer.next = some f → f.state = .armed ∨ f.setup ≠ setup) :
    answerSetup setup complete s = s := by
  unfold answerSetup
  split
  · rfl
  · rename_i f next
    refine if_neg fun ⟨inSetup, named⟩ => ?_
    rcases other f next with armed | elsewhere
    · rw [inSetup] at armed
      cases armed
    · exact elsewhere named

/-- Settles O43: the answer by the context it finds, the end by the link's state and its waiting work. -/
theorem setupsAreAnsweredAndEnded : Obligations.SetupsAreAnsweredAndEnded := by
  intro setup s
  refine ⟨fun f complete next inSetup named => ?_, fun complete other => answerSetup_ignored other,
    fun w x rest t working named writes bus => ?_, fun w working named bus waits => ?_,
    fun w r draining waits named => ?_, fun others elsewhere => ?_, fun f next => ?_, fun next => ?_⟩
  · subst named
    rw [answerSetup_named next inSetup, NextFrame.answered]
    cases complete <;> simp [State.setNext, inSetup]
  · rw [endSetup, working]
    dsimp only
    rw [if_pos named, bus, writes]
    rfl
  · rw [endSetup, working]
    dsimp only
    rw [if_pos named, bus]
    exact linkIdle_none waits
  · rw [endSetup, draining, waits]
    exact if_pos named
  · unfold endSetup
    split
    · rename_i w working
      exact if_neg (others w working)
    · rename_i r waits _
      exact if_neg (elsewhere r waits)
    · rfl
  · rw [abandonNext, next]
    rfl
  · rw [abandonNext, next]

/-! ### Transactions (R121, R122, R124) -/

/-- The three bytes that open every transaction: the address byte with write bit 0 and the register address, upper
byte first. -/
def openingBytes (address : BitVec 7) (register : BitVec 16) : List Byte :=
  [BitVec.ofNat 8 (2 * address.toNat), BitVec.ofNat 8 (register.toNat / 256), BitVec.ofNat 8 register.toNat]

/-- The address byte with read bit 1. -/
def readByte (address : BitVec 7) : Byte := BitVec.ofNat 8 (2 * address.toNat + 1)

theorem openingBytes_eq (address : BitVec 7) (register : BitVec 16) :
    (BitVec.ofNat 8 (2 * address.toNat) : Byte) :: beBytes 2 register.toNat = openingBytes address register := by
  simp [openingBytes, beBytes]

section

variable (address : BitVec 7) (register : BitVec 16) (bytes : List Byte) (count left : Nat)

theorem write_signals :
    Transaction.signals { address := address, register := register, data := .write bytes, left := left } =
      .start :: (openingBytes address register ++ bytes).map .sent ++ [.stop] := by
  simp [Transaction.signals, ← openingBytes_eq]

theorem read_signals :
    Transaction.signals { address := address, register := register, data := .read (count + 1), left := left } =
      .start :: (openingBytes address register).map .sent ++ [.repeatedStart, .sent (readByte address)]
        ++ List.replicate count (.received true) ++ [.received false, .stop] := by
  simp [Transaction.signals, ← openingBytes_eq, receivedSignals_succ, readByte]

/-- A refusal behind the start condition, among the bytes sent first. -/
theorem refusedAt_start {sent : List Byte} (rest : List BusSignal) {j : Nat} (first : 1 ≤ j)
    (within : j ≤ sent.length) :
    refusedAt (.start :: (sent.map .sent ++ rest)) j = .start :: (sent.take j).map .sent ++ [.stop] := by
  obtain ⟨n, rfl⟩ : ∃ n, j = n + 1 := ⟨j - 1, by omega⟩
  simp only [refusedAt]
  rw [refusedAt_map_sent _ _ _ within, List.cons_append]

/-- A refusal among the bytes of a write: those up to it, each in nine bit times, between a start and a stop. -/
theorem write_refused {j : Nat} (first : 1 ≤ j) (within : j ≤ 3 + bytes.length) :
    Transaction.refusedSignals
        { address := address, register := register, data := .write bytes, left := left } j =
      .start :: ((openingBytes address register ++ bytes).take j).map .sent ++ [.stop] := by
  rw [Transaction.refusedSignals, write_signals, List.cons_append]
  refine refusedAt_start _ first ?_
  rw [List.length_append]
  exact within

theorem read_refused {j : Nat} (first : 1 ≤ j) (within : j ≤ 3) :
    Transaction.refusedSignals
        { address := address, register := register, data := .read (count + 1), left := left } j =
      .start :: ((openingBytes address register).take j).map .sent ++ [.stop] := by
  rw [Transaction.refusedSignals, read_signals]
  simp only [List.cons_append, List.append_assoc]
  exact refusedAt_start _ first within

end

/-- Settles O44: the beginning by the work at hand, the signals by the direction of the transaction. -/
theorem transactionsBeginAndSendTheirBytes : Obligations.TransactionsBeginAndSendTheirBytes := by
  intro s write read
  refine ⟨fun w x rest working bus writes => ?_, fun w working bus => ?_, fun resting => ?_,
    fun address register bytes count left => ?_⟩
  · have begun : x.transaction s.link = write x.register (beBytes x.count x.value) := rfl
    simp only [exec, execI2cTransactionBegin, working, bus, writes, begun]
  · simp only [exec, execI2cTransactionBegin, working, bus]
    cases w.command.op <;> rfl
  · rcases resting with idle | ⟨w, draining⟩
    · simp only [exec, execI2cTransactionBegin, idle]
    · simp only [exec, execI2cTransactionBegin, draining]
  · intro opening readByte bits writing reading
    have wrote : writing.signals = _ := write_signals address register bytes left
    have reads : reading.signals = _ := read_signals address register count left
    refine ⟨?_, ?_, wrote, reads, ?_, ?_, fun j first within => ?_,
      fun j first within => read_refused address register count left first within, ?_⟩
    · rw [Transaction.sent, wrote]
      rw [List.cons_append, sentBytes_cons_other rfl, List.filterMap_append, sentBytes_map_sent,
        sentBytes_cons_other rfl, List.filterMap_nil, List.append_nil]
      rfl
    · rw [Transaction.sent, reads]
      have received : (List.replicate count (BusSignal.received true)).filterMap BusSignal.sentByte = [] := by
        simp [BusSignal.sentByte]
      rw [List.filterMap_append, List.filterMap_append, received, List.cons_append, sentBytes_cons_other rfl,
        List.filterMap_append, sentBytes_map_sent]
      rfl
    · simp only [bits]
      rw [wrote]
      simp [BusSignal.bits, openingBytes]
      omega
    · simp only [bits]
      rw [reads]
      simp [BusSignal.bits, openingBytes]
      omega
    · have refused := write_refused address register bytes left first within
      refine ⟨refused, ?_⟩
      simp only [bits]
      rw [refused]
      have size : (openingBytes address register ++ bytes).length = 3 + bytes.length := by
        rw [List.length_append]; rfl
      simp only [List.map_append, List.map_cons, List.sum_append, List.sum_cons, bits_map_sent,
        List.length_take, size, List.cons_append]
      simp [BusSignal.bits]
      omega
    · rw [Transaction.refusedSignals, reads]
      simp only [openingBytes, List.map_cons, List.map_nil, List.cons_append, List.nil_append, refusedAt,
        refusedAt_zero]
      rfl

end Sys2Proof.Proofs

/-! The ends of the transactions of setups, drains and direct commands (R118 to R126, R147). -/

namespace Sys2Proof.Proofs

open Sys2Proof.Machine Sys2Proof.Safety

/-! ### The end of a write of a setup and of a drain (R118 to R120, R122, R123) -/

/-- An answered setup leaves the link as it stands, so that the link can go to IDLE before or after the answer. -/
theorem linkIdle_answerSetup {s : State} (setup : Nat) (complete : Bool) (waits : s.link.waiting = none) :
    linkIdle (answerSetup setup complete s) = answerSetup setup complete (s.setLinkState .idle) := by
  have idles : ∀ t : State, t.link = s.link → linkIdle t = t.setLinkState .idle :=
    fun t same => linkIdle_none (by rw [same, waits])
  unfold answerSetup
  cases next : s.sequencer.next with
  | none =>
    simp only [State.setLinkState, next]
    exact idles s rfl
  | some f =>
    simp only [State.setLinkState, next]
    split
    · exact idles _ rfl
    · exact idles s rfl

/-- The shadow that the end of a drain leaves (R118, R123). -/
def drainedShadow (w : DrainWork) (answer : BusAnswer) (shadow : PerKind (Option Nat)) : PerKind (Option Nat) :=
  match w.records, answer with
  | none, _ => shadow
  | some (k, v), .acknowledged => shadow.set k (some v)
  | some (k, _), .nack _ => shadow.set k none

theorem recordDrain_eq (w : DrainWork) (answer : BusAnswer) (s : State) :
    recordDrain w answer s =
      { s with link := { s.link with shadow := drainedShadow w answer s.link.shadow } } := by
  unfold recordDrain drainedShadow setShadow
  cases w.records with
  | none => rfl
  | some r => cases answer <;> rfl

/-- An IDLE link takes up the work that waited as it takes up work handed to it. -/
theorem linkIdle_takes (s : State) :
    let idle : State := { s with link := { s.link with state := .idle, waiting := none } }
    (s.link.waiting = none → linkIdle s = idle) ∧
    (∀ r, s.link.waiting = some (.setup r) → linkIdle s = handSetup r idle) ∧
    (∀ c, s.link.waiting = some (.direct c) → linkIdle s = handDirect c idle) := by
  refine ⟨fun waits => ?_, fun r waits => ?_, fun c waits => ?_⟩
  · rw [linkIdle_none waits, ← waits]
    rfl
  · rw [linkIdle, waits]
    rfl
  · rw [linkIdle, waits]
    rfl

/-- Settles O45: the write by its answer, what is left and its retry; the drain by its answer and what waited. -/
theorem setupWritesAndDrainsEndInTheShadow : Obligations.SetupWritesAndDrainsEndInTheShadow := by
  refine ⟨fun w x rest t position s working writes bus waits => ?_, fun w answer s draining => ?_⟩
  · have ends : ∀ answer, exec (.setupWriteEnd answer) s =
        .next (match answer with
          | .acknowledged => writeAcknowledged w x rest s
          | .nack _ => writeRefused w x s) := fun answer => by
      cases answer <;> simp only [exec, execSetupWriteEnd, working, writes, bus]
    intro shadowed
    have idle : ∀ v complete, linkIdle (answerSetup w.setup complete (setShadow x.kind v s)) =
        answerSetup w.setup complete (shadowed v .idle) := fun v complete =>
      linkIdle_answerSetup (s := setShadow x.kind v s) w.setup complete waits
    refine ⟨fun more => ?_, fun last => ?_, fun first => ?_, fun retry => ?_⟩
    · obtain ⟨y, ys, rfl⟩ := List.exists_cons_of_ne_nil more
      exact ends .acknowledged
    · subst last
      exact (ends .acknowledged).trans (congrArg _ (idle _ true))
    · rw [ends (.nack position)]
      dsimp only
      rw [writeRefused, if_neg (by simp [first])]
      rfl
    · rw [ends (.nack position)]
      dsimp only
      rw [writeRefused, if_pos retry]
      exact congrArg _ (idle none false)
  · have ends : exec (.drainEnd answer) s =
        .next (linkIdle { s with link := { s.link with shadow := drainedShadow w answer s.link.shadow } }) := by
      simp only [exec, execDrainEnd, draining, recordDrain_eq]
    rw [ends]
    obtain ⟨nothing, setup, direct⟩ :=
      linkIdle_takes { s with link := { s.link with shadow := drainedShadow w answer s.link.shadow } }
    exact ⟨fun waits => congrArg _ (nothing waits), fun r waits => congrArg _ (setup r waits),
      fun c waits => congrArg _ (direct c waits)⟩

/-! ### Direct commands (R124, R125, R147) -/

/-- The shadow entries that a write sets unknown, kind by kind. -/
theorem foldl_forget (register : BitVec 16) (count : Nat) (l : List ParamKind) (s : State) :
    ∃ shadow : PerKind (Option Nat),
      l.foldl (fun t k => if (t.link.map.get k).overlaps register count then setShadow k none t else t) s =
        { s with link := { s.link with shadow := shadow } } ∧
      ∀ k, shadow.get k =
        if k ∈ l ∧ (s.link.map.get k).overlaps register count = true then none else s.link.shadow.get k := by
  induction l generalizing s with
  | nil => exact ⟨_, rfl, fun k => by simp⟩
  | cons j l ih =>
    rw [List.foldl_cons]
    by_cases overlaps : (s.link.map.get j).overlaps register count = true
    · rw [if_pos overlaps]
      obtain ⟨shadow, folded, entries⟩ := ih (setShadow j none s)
      refine ⟨shadow, folded, fun k => ?_⟩
      rw [entries k]
      by_cases same : k = j
      · subst same
        simp [overlaps, setShadow]
      · simp [setShadow, PerKind.get_set, same]
    · rw [if_neg overlaps]
      obtain ⟨shadow, folded, entries⟩ := ih s
      refine ⟨shadow, folded, fun k => ?_⟩
      rw [entries k]
      by_cases same : k = j
      · subst same
        simp [overlaps]
      · simp [same]

theorem forgetOverlapping_eq (register : BitVec 16) (count : Nat) (s : State) :
    ∃ shadow : PerKind (Option Nat),
      forgetOverlapping register count s = { s with link := { s.link with shadow := shadow } } ∧
      ∀ k, shadow.get k =
        if (s.link.map.get k).overlaps register count = true then none else s.link.shadow.get k := by
  obtain ⟨shadow, folded, entries⟩ := foldl_forget register count allKinds s
  refine ⟨shadow, folded, fun k => ?_⟩
  have listed : k ∈ allKinds := by cases k <;> decide
  simpa [listed] using entries k

/-- The registers of an entry and those of a write share an address. -/
theorem overlaps_iff {e : MapEntry} {register : BitVec 16} {count : Nat} (some : 1 ≤ count) :
    e.overlaps register count = true ↔
      ∃ a, e.register.toNat ≤ a ∧ a < e.register.toNat + e.count ∧
        register.toNat ≤ a ∧ a < register.toNat + count := by
  simp only [MapEntry.overlaps, Bool.and_eq_true, decide_eq_true_eq]
  constructor
  · rintro ⟨⟨mapped, before⟩, behind⟩
    exact ⟨max e.register.toNat register.toNat, by omega⟩
  · rintro ⟨a, from1, to1, from2, to2⟩
    omega

/-- What the link makes of a direct command handed to it, by its state (R124, R125). -/
theorem handDirect_eq (c : DirectCommand) (s : State) :
    handDirect c s =
      { s with
        link :=
          match s.link.state with
          | .idle =>
            { s.link with
              state := .direct { command := c, retry := false, bus := some (c.op.transaction s.link), left := 0 } }
          | _ => { s.link with waiting := some (.direct c) } } := by
  unfold handDirect
  cases s.link.state <;> rfl

/-- A direct command answered: the buffer that still waits for it takes the answer, and the link is IDLE (R147). -/
theorem finishDirect_answers {w : DirectWork} {r : Response} {s : State} (waits : s.link.waiting = none) :
    finishDirect w r s =
      let s1 : State := { s with link := { s.link with state := .idle } }
      if (s.port w.command.port).buffer = .pending w.command.serial then
        s1.setPort w.command.port { s.port w.command.port with buffer := .ready r }
      else s1 := by
  have link : (deliverAnswer w.command.port w.command.serial r s).link = s.link := by rw [deliverAnswer_eq]; rfl
  rw [finishDirect, linkIdle_none (by rw [link, waits]), deliverAnswer]
  dsimp only
  split <;> rfl

/-- A direct transaction refused: made once more, or answered SENSOR_NACK at the second (R124, R125). -/
theorem directRefused_eq (w : DirectWork) (s : State) :
    (w.retry = false → directRefused w s =
      { s with link := { s.link with state := .direct { w with retry := true, bus := none, left := 20 } } }) ∧
    (w.retry = true → directRefused w s = finishDirect w { status := .sensorNack, results := [] } s) :=
  ⟨fun first => if_neg (by simp [first]), fun second => if_pos second⟩

/-- Settles O46: the commands by the state of the link, the ends by their answer and the retry. -/
theorem directCommandsAreTakenUpAndAnswered : Obligations.DirectCommandsAreTakenUpAndAnswered := by
  refine ⟨fun h cmd c s held mine still => ?_, fun w t position s working bus waits => ?_⟩
  · have holds : s.holdsClaim h = true := holdsClaim_iff.mpr ⟨c, held, mine⟩
    intro link
    refine ⟨fun register count takes read => ?_, fun register bytes takes read => ?_⟩
    · have runs := (sensorRead_claims takes read).holder holds
      rw [if_pos (isStill_iff.mpr still), handDirect_eq] at runs
      refine runs.trans (congrArg Host.Outcome.next ?_)
      simp only [link, taken_link]
      cases s.link.state <;> rfl
    · obtain ⟨shadow, forgotten, entries⟩ :=
        forgetOverlapping_eq register bytes.length (taken s h .sensorWrite)
      obtain ⟨_, _, sent, _, some, _⟩ := (sensorWriteArgs_iff _ _).mp read
      cases sent
      refine ⟨shadow, fun k => ⟨fun shared => ?_, fun apart => ?_⟩, ?_⟩
      · rw [entries k]
        exact if_pos ((overlaps_iff some).mpr shared)
      · rw [entries k]
        exact if_neg fun overlaps => apart ((overlaps_iff some).mp overlaps)
      · have runs := (sensorWrite_claims takes read).holder holds
        rw [if_pos (isStill_iff.mpr still), DirectOp.forget, forgotten, handDirect_eq] at runs
        refine runs.trans (congrArg Host.Outcome.next ?_)
        simp only [link, taken_link]
        cases s.link.state <;> rfl
  · intro p answered again
    have finished : ∀ r, finishDirect w r s = answered r := fun r => finishDirect_answers (w := w) (r := r) waits
    obtain ⟨first, second⟩ := directRefused_eq w s
    refine ⟨fun register bytes op => ?_, fun register count op => ⟨fun retry => ?_, fun retry => ?_⟩,
      fun register bytes op => ⟨?_, fun retry => ?_, fun retry => ?_⟩⟩
    · simp only [exec, execDirectReadEnd, working, bus, op, if_true, finished]
    · simp only [exec, execDirectReadEnd, working, bus, op, first retry, again]
    · simp only [exec, execDirectReadEnd, working, bus, op, second retry, finished]
    · simp only [exec, execDirectWriteEnd, working, bus, op, finished]
    · simp only [exec, execDirectWriteEnd, working, bus, op, first retry, again]
    · simp only [exec, execDirectWriteEnd, working, bus, op, second retry, finished]

end Sys2Proof.Proofs

/-! Frames, their lines and their ends (R77 to R79, R104 to R108). -/

namespace Sys2Proof.Proofs

open Sys2Proof.Machine Sys2Proof.Safety

/-! ### The pixels of a line (R105) -/

/-- The accumulators after a run of pixels, all of which are measured. -/
def measuredOver (a : Accumulators) (pixels : List Pixel) : Accumulators :=
  { a with
    pixelCount := a.pixelCount + pixels.length
    levelSum := a.levelSum + (pixels.map BitVec.toNat).sum
    bins := Vector.ofFn fun i : Fin 8 => a.bins[i] + pixels.countP fun x => x.toNat / 128 == i.val
    clipCount := a.clipCount + pixels.countP fun x => x == 1023 }

theorem measuredOver_nil (a : Accumulators) : measuredOver a [] = a := by
  unfold measuredOver
  simp

/-- A pixel measured goes to the count, the sum, its bin and, at 1023, the clip count. -/
theorem measuredOver_measure (a : Accumulators) (level : Pixel) (pixels : List Pixel)
    (room : a.pixelCount < pixelLimit) :
    measuredOver (a.measure level) pixels = measuredOver a (level :: pixels) := by
  have bins : ∀ i : Fin 8,
      (a.bins.set (binOf level) (a.bins[binOf level] + 1))[i] =
        a.bins[i] + if level.toNat / 128 = i.val then 1 else 0 := fun i => by
    by_cases here : level.toNat / 128 = i.val
    · have same : binOf level = i := Fin.ext here
      subst same
      simp [binOf]
    · have other : (binOf level).val ≠ i.val := here
      simp [here, other]
  rw [Accumulators.measure, if_pos room]
  unfold measuredOver
  simp only [Accumulators.mk.injEq, List.length_cons, List.map_cons, List.sum_cons, List.countP_cons]
  refine ⟨by omega, by omega, ?_, ?_, trivial, trivial⟩
  · congr 1
    funext i
    rw [bins i]
    simp only [beq_iff_eq]
    omega
  · simp only [beq_iff_eq]
    split <;> omega

theorem measure_full {a : Accumulators} (full : ¬a.pixelCount < pixelLimit) (level : Pixel) :
    a.measure level = a := if_neg full

/-- A line's pixels are measured as far as the limit of a frame allows. -/
theorem foldl_measure (pixels : List Pixel) (a : Accumulators) :
    pixels.foldl Accumulators.measure a = measuredOver a (pixels.take (pixelLimit - a.pixelCount)) := by
  induction pixels generalizing a with
  | nil => rw [List.take_nil, measuredOver_nil]; rfl
  | cons level pixels ih =>
    rw [List.foldl_cons, ih]
    by_cases room : a.pixelCount < pixelLimit
    · have count : (a.measure level).pixelCount = a.pixelCount + 1 := by rw [Accumulators.measure, if_pos room]
      have less : pixelLimit - a.pixelCount = pixelLimit - (a.pixelCount + 1) + 1 := by omega
      rw [count, less, List.take_succ_cons, measuredOver_measure _ _ _ room]
    · have full : pixelLimit - a.pixelCount = 0 := by omega
      rw [measure_full room, full, List.take_zero, List.take_zero]

/-- The accumulators after a line, whether it is counted and may set the length fault being given. -/
theorem foldl_measure_line (a : Accumulators) (pixels : List Pixel) (lines : Nat) (fault : Bool) :
    pixels.foldl Accumulators.measure { a with lineCount := lines, lengthFault := fault } =
      { measuredOver a (pixels.take (pixelLimit - a.pixelCount)) with lineCount := lines, lengthFault := fault } := by
  rw [foldl_measure]
  rfl

/-! ### The frame start (R77, R78, R104) -/

theorem frameStart_ignored {s : State} (busy : ∀ f, s.sequencer.present = some f → f.state = .readout) :
    exec .frameStart s = .next (frameStartIgnored s) := by
  cases present : s.sequencer.present with
  | none => simp only [exec, execFrameStart, present]
  | some f => simp only [exec, execFrameStart, present, busy f present]

/-- Settles O51: the frame start by the frame in flight, the lines by Frame Pass. -/
theorem framesStartAndAreMeasured : Obligations.FramesStartAndAreMeasured := by
  refine ⟨fun s => ?_, fun pixels s => ⟨fun idle cut => ?_, fun a header last f taking present => ?_⟩⟩
  · intro due
    refine ⟨fun out => ?_, fun runs => ?_, fun f present exposing => ?_, fun busy => ⟨fun a header cut taking => ?_,
      fun idle => ?_⟩⟩
    · simp only [exec, execExposureTimerExpiry, out, if_true]
      rfl
    · simp only [exec, execExposureTimerExpiry, runs, if_false]
    · simp only [exec, execFrameStart, present, exposing]
      rfl
    · rw [frameStart_ignored busy, frameStartIgnored, taking]
    · rw [frameStart_ignored busy, frameStartIgnored]
      split
      · rename_i a header cut taking
        exact absurd taking (idle a header cut)
      · rfl
  · simp only [exec, execVideoLine]
    split
    · rename_i a header last f taking present
      exact absurd taking (idle a header last)
    · rfl
  · intro measured after
    refine ⟨?_, Config.cutLineCounted s.freeIndex, Config.cutLineFaults s.freeIndex, ?_⟩
    · simp only [exec, execVideoLine, taking, present]
      rw [Accumulators.takeLine, foldl_measure_line, Accumulators.faultedBy, Bool.and_comm]
      rfl
    · simp only [exec, execVideoLine, taking, present, if_true]
      rw [Accumulators.takeCut, foldl_measure_line]
      rfl

/-! ### The frame end (R79, R106, R107) -/

theorem shareOf_eq (count pixels : Nat) :
    shareOf count pixels = if pixels = 0 then 0 else count * 1024 / pixels := by
  unfold shareOf
  split
  · rename_i none
    rw [none, Nat.div_zero]
  · rfl

/-- A quotient by 0 is 0. -/
theorem statistics_eq (a : Accumulators) :
    a.statistics =
      { mean := if a.pixelCount = 0 then 0 else a.levelSum / a.pixelCount
        histogram := Vector.ofFn fun i : Fin 8 => if a.pixelCount = 0 then 0 else a.bins[i] * 1024 / a.pixelCount
        clipShare := if a.pixelCount = 0 then 0 else a.clipCount * 1024 / a.pixelCount } := by
  simp only [Accumulators.statistics, shareOf_eq, Statistics.mk.injEq, and_true]
  split
  · rename_i none
    rw [none, Nat.div_zero]
  · rfl

/-- Settles O52: the frame end by the frame in flight and the state of Frame Pass. -/
theorem frameEndsCloseNormally : Obligations.FrameEndsCloseNormally := by
  intro s
  refine ⟨fun exposing => ?_, fun f a header cut present readout pass => ?_⟩
  · cases present : s.sequencer.present with
    | none => simp only [exec, execFrameEnd, present]
    | some f => simp only [exec, execFrameEnd, present, exposing f present]
  · intro share
    have accumulators : s.framePass.accumulators = a := by rcases pass with pass | pass <;> rw [pass] <;> rfl
    have mismatch : s.framePass.mismatch f.context.window =
        (a.lengthFault || a.lineCount != f.context.window.height ||
          (cut && s.framePass == .waitingEnd a header cut)) := by
      rw [FramePass.mismatch, accumulators, Accumulators.mismatch, Bool.or_comm a.lengthFault]
      rcases pass with pass | pass <;> rw [pass] <;> simp [FramePass.cutShort]
    simp only [exec, execFrameEnd, present, readout, frameEnded]
    rw [accumulators, mismatch, statistics_eq]
    rfl

end Sys2Proof.Proofs

/-! Setup points, slot starts and closes (R66 to R85). -/

namespace Sys2Proof.Proofs

open Sys2Proof.Machine Sys2Proof.Safety

/-! ### Setup points (R40, R67, R72, R73) -/

theorem shiftedExposure_eq (base : Nat) (shift : Int) :
    shiftedExposure base shift = if 0 ≤ shift then base * 2 ^ shift.natAbs else base / 2 ^ shift.natAbs := by
  unfold shiftedExposure
  split
  · rw [show shift.toNat = shift.natAbs by omega]
  · rw [show (-shift).toNat = shift.natAbs by omega]

theorem heldWithin_eq {a b : Nat} (ordered : a ≤ b) (v : Nat) : heldWithin a b v = max a (min b v) := by
  unfold heldWithin
  split
  · omega
  · split <;> omega

theorem appliedGain_eq (base : Nat) (t : BracketStep) :
    appliedGain base t = (max 16 (min 256 ((base : Int) + t.offset))).toNat := by
  rw [appliedGain, heldWithin_eq (by decide)]
  omega

/-- The swap at index 0, where the builder is READY (R54). -/
theorem swapAtZero_eq (index : Nat) (s : State) :
    (if index = 0 then swapIfReady s else s) =
      match index, s.calendar.builder with
      | 0, .ready sh => swap sh s
      | _, _ => s := by
  cases index with
  | zero =>
    rw [if_pos rfl, swapIfReady]
    cases s.calendar.builder <;> rfl
  | succ n => exact if_neg (Nat.succ_ne_zero n)

/-- The state in which a setup point sets a slot up: the next index noted, the swap made (R67, R72). -/
def pointed (s : State) : State :=
  let t : State := { s with sequencer := { s.sequencer with nextIndex := nextIndexOf s, setupDone := true } }
  if nextIndexOf s = 0 then swapIfReady t else t

theorem setupPoint_eq (s : State) : setupPoint s = setUpSlot (nextIndexOf s) (pointed s) := rfl

theorem slotBudget_pointed (s : State) : slotBudget (pointed s) = slotBudget s := by
  unfold pointed
  dsimp only
  split
  · rw [slotBudget, slotBudget, swapIfReady_touches]
  · rfl

/-- The context a setup begins with, by what R40 works out for it. -/
theorem newContext_of_applied {s : State} {index : Nat} {profile : Fin 16} {step : Nat}
    {subscribers : List Subscriber} {p : Profile} {t : BracketStep} {exposure gain : Nat} {clamped : Bool}
    (exposureIs : appliedExposure (slotBudget s) p.baseExposure t = exposure)
    (gainIs : appliedGain p.baseGain t = gain)
    (clampedIs : isClamped (slotBudget s) p.baseExposure t = clamped) :
    newContext s index profile step subscribers p t =
      { newContext s index profile step subscribers p t with
        exposure := exposure, gain := gain, clamped := clamped } := by
  subst exposureIs gainIs clampedIs
  rfl

/-- Settles O47: the next index, the swap at 0, then the slot by what the calendar holds. -/
theorem setupPointsSetUpTheNextSlot : Obligations.SetupPointsSetUpTheNextSlot := by
  intro s roomy index s1 s2
  have indexed : nextIndexOf s = index := by
    simp only [nextIndexOf, index]
    cases s.sequencer.position <;> rfl
  have swapped : pointed s = s2 := by
    rw [pointed, indexed]
    exact swapAtZero_eq index s1
  have budgetIs : slotBudget s2 = s.engine.slotPeriod - s.link.description.readout - 100 :=
    swapped ▸ slotBudget_pointed s
  rw [setupPoint_eq, indexed, swapped]
  refine ⟨fun idle => ?_, fun profile step subscribers p t assigned held stepped => ?_⟩
  · rw [setUpSlot, idle]
  · intro budget shifted exposure gain
    have shiftedIs : shiftedExposure p.baseExposure t.shift = shifted := shiftedExposure_eq _ _
    have exposureIs : appliedExposure (slotBudget s2) p.baseExposure t = exposure := by
      rw [appliedExposure, heldWithin_eq (by omega), budgetIs, shiftedIs]
    have gainIs : appliedGain p.baseGain t = gain := appliedGain_eq _ _
    have clampedIs : isClamped (slotBudget s2) p.baseExposure t = decide (budget < shifted) := by
      rw [isClamped, budgetIs, shiftedIs]
    simp only [setUpSlot, assigned, held, stepped]
    exact congrArg (beginSetup · s2) (newContext_of_applied exposureIs gainIs clampedIs)

/-! ### Closes (R80, R81, R85, R169) -/

/-- The counters of consecutive failures after a close (R81). -/
def countedFailures (outcome : FrameOutcome) (q : Sequencer) : Sequencer :=
  match outcome with
  | .normal => { q with linkFailures := 0, stallFailures := 0 }
  | .dropped .link => { q with linkFailures := saturatingSucc 3 q.linkFailures }
  | .dropped .stall => { q with stallFailures := saturatingSucc 3 q.stallFailures }
  | _ => q

theorem countFailure_sequencer (outcome : FrameOutcome) (s : State) :
    countFailure outcome s = { s with sequencer := countedFailures outcome s.sequencer } := by
  rcases outcome with _ | (_ | _ | _ | _) <;> rfl

/-- Steps 1 to 3 of a close: the records, Exposure Control, the occasions (R80). -/
def closedTables (c : FrameContext) (outcome : FrameOutcome) (s : State) : State :=
  let closed := { c with outcome := some outcome }
  countOccasions closed outcome (judgeFrame closed outcome (composeRecords closed outcome s))

theorem closing_sequencer (c : FrameContext) (outcome : FrameOutcome) (s : State) :
    closing c outcome s =
      { closedTables c outcome s with sequencer := countedFailures outcome s.sequencer } := by
  have same : (closedTables c outcome s).sequencer = s.sequencer := by
    rw [closedTables, closeSteps_touch]
  rw [← same]
  exact countFailure_sequencer outcome (closedTables c outcome s)

theorem reachedThree_iff {before after : Nat} : reachedThree before after = true ↔ before = 2 ∧ after = 3 := by
  simp [reachedThree]

/-- The third STALL, and no other close, takes the STALL counter from 2 to 3 (R82). -/
theorem stall_reachedThree_iff (outcome : FrameOutcome) (q : Sequencer) :
    reachedThree q.stallFailures (countedFailures outcome q).stallFailures = true ↔
      outcome = .dropped .stall ∧ q.stallFailures = 2 := by
  rw [reachedThree_iff]
  rcases outcome with _ | (_ | _ | _ | _) <;> simp [countedFailures, saturatingSucc]
  all_goals omega

/-- A close in an engine that is not STOPPING, or at the third STALL, is its four steps. -/
theorem closeFrame_goes {c : FrameContext} {outcome : FrameOutcome} {s : State}
    (goes : s.engine.state ≠ .stopping ∨ outcome = .dropped .stall ∧ s.sequencer.stallFailures = 2) :
    closeFrame c outcome s = closing c outcome s := by
  have engine : (closing c outcome s).engine = s.engine := by
    rw [closing_sequencer, closedTables, closeSteps_touch]
  rw [closeFrame_eq, if_neg]
  rintro ⟨stopping, below⟩
  rw [closing_sequencer, ← Bool.not_eq_true, stall_reachedThree_iff] at below
  rw [engine] at stopping
  exact goes.elim (· stopping) below

/-- Any other close in STOPPING ends the stop (R85). -/
theorem closeFrame_ends {c : FrameContext} {outcome : FrameOutcome} {s : State}
    (stopping : s.engine.state = .stopping)
    (below : outcome ≠ .dropped .stall ∨ s.sequencer.stallFailures ≠ 2) :
    closeFrame c outcome s = endOfStop (closing c outcome s) := by
  have engine : (closing c outcome s).engine = s.engine := by
    rw [closing_sequencer, closedTables, closeSteps_touch]
  rw [closeFrame_eq, if_pos]
  refine ⟨by rw [engine, stopping], ?_⟩
  rw [closing_sequencer, ← Bool.not_eq_true, stall_reachedThree_iff, not_and_or]
  exact below

/-- The state at the end of a stop, before STOP is answered (R85, R169). -/
def stopEnded (s : State) : State :=
  { s with
    ports := postedToAll { kind := .engineStopped, subject := 0, detail := 0 } s
    sequencer := { s.sequencer with slotTimer := none, exposureTimer := none, position := .absent }
    engine := { s.engine with state := .stopped, stopWaiting := none } }

theorem endOfStop_none {s : State} (idle : s.engine.stopWaiting = none) : endOfStop s = stopEnded s := by
  rw [endOfStop, answerStop_none, postToAll_eq, stopEnded, ← idle]
  · rfl
  · rw [postToAll_eq]
    exact idle

theorem endOfStop_some {s : State} {h : HostId} {serial : Nat}
    (waits : s.engine.stopWaiting = some (h, serial)) :
    endOfStop s =
      if ((stopEnded s).port h).buffer = .pending serial then
        (stopEnded s).setPort h
          { (stopEnded s).port h with buffer := .ready { status := .ok, results := [0x00] } }
      else stopEnded s := by
  rw [endOfStop, postToAll_eq]
  let t : State := { s with
    ports := postedToAll { kind := .engineStopped, subject := 0, detail := 0 } s
    sequencer := { s.sequencer with slotTimer := none, exposureTimer := none, position := .absent }
    engine := { s.engine with state := .stopped } }
  have answered := answerStop_some (s := t) waits
  have code : beBytes 1 t.engine.state.code = [0x00] := by rw [beBytes_one]; rfl
  rw [deliverAnswer, code] at answered
  exact answered

/-- Settles O49: the drop by the state of the frame, the close by its outcome and the waiting stop. -/
theorem closesTakeTheirStepsInOrder : Obligations.ClosesTakeTheirStepsInOrder := by
  refine ⟨fun reason s => ⟨fun empty => dropPresent_none empty reason, fun f present =>
    ⟨fun exposing => ?_, fun readout => ?_⟩⟩, fun c outcome s => ?_⟩
  · rw [dropPresent_some present, dropping, exposing]
  · rw [dropPresent_some present, dropping, readout]
    rfl
  · intro closed s1 raised s2 s3
    obtain ⟨sequencer, engine, link, pass, output⟩ :
        s1.sequencer = s.sequencer ∧ s1.engine = s.engine ∧ s1.link = s.link ∧ s1.framePass = s.framePass ∧
          s1.videoOut = s.videoOut := by
      simp only [s1]
      rw [closeSteps_touch]
      exact ⟨rfl, rfl, rfl, rfl, rfl⟩
    have closes : closing c outcome s = s2 := by
      rw [closing_sequencer]
      simp only [s2, sequencer]
      rcases outcome with _ | (_ | _ | _ | _) <;> rfl
    refine ⟨sequencer, engine, link, pass, output, fun goes => (closeFrame_goes goes).trans closes,
      fun stopping below => ⟨fun idle => ?_, fun h serial waits => ?_⟩⟩
    · rw [closeFrame_ends stopping below, closes]
      exact endOfStop_none ((congrArg Engine.stopWaiting engine).trans idle)
    · rw [closeFrame_ends stopping below, closes]
      exact endOfStop_some ((congrArg Engine.stopWaiting engine).trans waits)

end Sys2Proof.Proofs

/-! The slot start (R66, R67, R71, R72, R75 to R77, R82). -/

namespace Sys2Proof.Proofs

open Sys2Proof.Machine Sys2Proof.Safety

/-! ### What closes and drops leave to the rest of a slot start -/

theorem dropPresent_leaves (reason : DropReason) (s : State) :
    (dropPresent reason s).sequencer.setupDone = s.sequencer.setupDone ∧
      (dropPresent reason s).delivery.clock = s.delivery.clock := by
  cases present : s.sequencer.present with
  | none => rw [dropPresent_none present]; exact ⟨rfl, rfl⟩
  | some f =>
    rw [dropPresent_some present]
    obtain ⟨_, _, dropped⟩ := dropping_eq f s
    rcases closeFrame_cases f.context (.dropped reason) (dropping f s) with
      ⟨_, _, _, _, _, _, _, closed, -⟩ | ⟨-, _, _, _, _, _, _, _, closed, -⟩ <;>
    · rw [closed, dropped]
      exact ⟨rfl, rfl⟩

/-- A close while RUNNING counts the failure and leaves the rest of the Frame Sequencer and the engine. -/
theorem closeFrame_while_running {c : FrameContext} {outcome : FrameOutcome} {s : State}
    (running : s.engine.state = .running) :
    (closeFrame c outcome s).sequencer = countedFailures outcome s.sequencer ∧
      (closeFrame c outcome s).engine = s.engine := by
  rw [closeFrame_goes (.inl (by rw [running]; exact (nomatch ·))), closing_sequencer]
  refine ⟨rfl, ?_⟩
  rw [closedTables, closeSteps_touch]

theorem halt_halted {fault : FaultCode} {s : State} (going : runs s) : ¬runs (halt fault s) := by
  have halted : (halt fault s).engine.state = .halted := by
    rw [halt, if_pos (show s.engine.state = .running ∨ s.engine.state = .stopping from going)]
    obtain ⟨_, answered⟩ := answerStop_eq (postToAll { kind := .engineHalted, subject := 0, detail := fault.code }
      (stopTimers (abandonNext (dropPresent .halt
        { s with engine.fault := fault, engine.state := .halted }))))
    rw [answered, postToAll_eq]
    dsimp only [stopTimers]
    rw [abandonNext_touches]
    exact congrArg Engine.state (dropPresent_same .halt (s := { s with engine.fault := fault, engine.state := .halted })
      (nomatch ·)).1
  simp [runs, halted]

/-! ### The faults of a slot start and the setup point behind it (R72, R82) -/

/-- Of two faults the second finds a HALTED engine. -/
theorem handFaults_stalled {s : State} (going : runs s) (link : Bool) :
    handFaults true link s = halt .sensorStall s := by
  unfold handFaults
  dsimp only
  rw [if_pos rfl]
  split
  · exact halt_still (halt_halted going)
  · rfl

/-- A slot start, by the state in which the frame in flight has been dropped. -/
def startedSlot (s : State) : State :=
  dropPresent .stall
    { s with sequencer := { s.sequencer with slotTimer := some s.engine.slotPeriod, setupDone := false } }

/-- A drop can end a stop, and leaves a RUNNING engine RUNNING. -/
theorem dropPresent_running_iff (reason : DropReason) (s : State) :
    (dropPresent reason s).engine.state = .running ↔ s.engine.state = .running := by
  by_cases stopping : s.engine.state = .stopping
  · have ends : (dropPresent reason s).engine.state = .stopping ∨ (dropPresent reason s).engine.state = .stopped := by
      cases present : s.sequencer.present with
      | none => rw [dropPresent_none present]; exact .inl stopping
      | some f =>
        obtain ⟨_, _, dropped⟩ := dropping_eq f s
        rw [dropPresent_some present, dropped]
        rcases closeFrame_cases f.context (.dropped reason) _ with
          ⟨_, _, _, _, _, _, _, closed, -⟩ | ⟨-, _, _, _, _, _, _, _, closed, -⟩ <;> rw [closed]
        · exact .inl stopping
        · exact .inr rfl
    rcases ends with ends | ends <;> simp [ends, stopping]
  · rw [(dropPresent_same reason stopping).1]

theorem startedSlot_running_iff (s : State) :
    (startedSlot s).engine.state = .running ↔ s.engine.state = .running := dropPresent_running_iff .stall _

/-- A slot start, the state behind its steps 2 to 5 being given. -/
theorem slotStart_eq {s after : State}
    (steps : (if (startedSlot s).engine.state = .running then startNext (startedSlot s) else startedSlot s) = after) :
    slotStart s =
      let stall := reachedThree s.sequencer.stallFailures (startedSlot s).sequencer.stallFailures
      let link := reachedThree (startedSlot s).sequencer.linkFailures after.sequencer.linkFailures
      if stall || link then handFaults stall link after
      else if after.sequencer.present.isNone then setupPointIfDue after
      else after := by
  rw [ite_congr (startedSlot_running_iff s).eq (fun _ => rfl) (fun _ => rfl)] at steps
  subst steps
  rfl

section

variable {s after : State}
  (steps : (if (startedSlot s).engine.state = .running then startNext (startedSlot s) else startedSlot s) = after)

include steps

/-- The third STALL halts the engine, whatever else the slot start finds (R82). -/
theorem slotStart_stalled
    (stalled : s.sequencer.stallFailures = 2 ∧ (startedSlot s).sequencer.stallFailures = 3)
    (link : after.sequencer.linkFailures = (startedSlot s).sequencer.linkFailures ∨ runs after) :
    slotStart s = halt .sensorStall after := by
  rw [slotStart_eq steps, reachedThree_iff.mpr stalled]
  rcases link with same | going
  · rw [same, Bool.eq_false_iff.mpr (mt reachedThree_iff.mp (by omega))]
    rfl
  · exact handFaults_stalled going _

/-- The third LINK failure halts the engine where the third STALL has not (R82). -/
theorem slotStart_linked
    (fine : ¬(s.sequencer.stallFailures = 2 ∧ (startedSlot s).sequencer.stallFailures = 3))
    (linked : (startedSlot s).sequencer.linkFailures = 2 ∧ after.sequencer.linkFailures = 3) :
    slotStart s = halt .sensorLink after := by
  rw [slotStart_eq steps, Bool.eq_false_iff.mpr (mt reachedThree_iff.mp fine), reachedThree_iff.mpr linked]
  rfl

/-- Without a fault a slot start with no frame triggered comes to its setup point, if that is due (R72). -/
theorem slotStart_fine
    (fine : ¬(s.sequencer.stallFailures = 2 ∧ (startedSlot s).sequencer.stallFailures = 3))
    (unlinked : ¬((startedSlot s).sequencer.linkFailures = 2 ∧ after.sequencer.linkFailures = 3)) :
    slotStart s = if after.sequencer.present.isNone then setupPointIfDue after else after := by
  rw [slotStart_eq steps, Bool.eq_false_iff.mpr (mt reachedThree_iff.mp fine),
    Bool.eq_false_iff.mpr (mt reachedThree_iff.mp unlinked)]
  rfl

/-- A slot start whose steps 2 to 5 leave the LINK counter alone. -/
theorem slotStart_unlinked (same : after.sequencer.linkFailures = (startedSlot s).sequencer.linkFailures) :
    slotStart s =
      if s.sequencer.stallFailures = 2 ∧ (startedSlot s).sequencer.stallFailures = 3 then halt .sensorStall after
      else if after.sequencer.present.isNone then setupPointIfDue after
      else after := by
  split
  · rename_i stalled
    exact slotStart_stalled steps stalled (.inl same)
  · rename_i fine
    exact slotStart_fine steps fine (by omega)

end

/-- A slot start that leaves a RUNNING engine with neither place taken has its setup point at once (R72). -/
theorem setupPointIfDue_due {s : State} (running : s.engine.state = .running)
    (pending : s.sequencer.setupDone = false) : setupPointIfDue s = setupPoint s := if_pos ⟨running, pending⟩

theorem endSetup_leaves (setup : Nat) (s : State) :
    ∃ next, (endSetup setup s).sequencer = { s.sequencer with next := next } ∧ (endSetup setup s).engine = s.engine := by
  rw [endSetup_touches]
  exact ⟨_, rfl, rfl⟩

/-- Settles O48: the slot start by the engine's state and the context in the next-slot place. -/
theorem slotStartsTriggerOrDropTheNextFrame : Obligations.SlotStartsTriggerOrDropTheNextFrame := by
  intro s
  refine ⟨fun runs => by simp only [exec, execSlotStart, runs, if_false], fun out => ?_⟩
  intro s1 stalled s2 n number
  have falls : exec .slotStart s = .next (slotStart s) := by simp only [exec, execSlotStart, out, if_true]
  have empty : s1.sequencer.present = none := dropPresent_empty _ _
  obtain ⟨pending, clock⟩ : s1.sequencer.setupDone = false ∧ s1.delivery.clock = s.delivery.clock :=
    dropPresent_leaves .stall
      { s with sequencer := { s.sequencer with slotTimer := some s.engine.slotPeriod, setupDone := false } }
  rw [falls]
  refine ⟨fun none => ?_, fun still => ?_, fun running none => ?_, fun f running next =>
    ⟨fun armed => ?_, fun inSetup waits => ?_, fun inSetup failed => ?_⟩⟩
  · exact congrArg State.sequencer (dropPresent_none
      (s := { s with sequencer := { s.sequencer with slotTimer := some s.engine.slotPeriod, setupDone := false } })
      none .stall)
  · have rests : setupPointIfDue s1 = s1 := if_neg fun due => still due.1
    have started := slotStart_unlinked (s := s) (if_neg still) rfl
    refine congrArg Host.Outcome.next (started.trans ?_)
    change (if _ then _ else if _ then setupPointIfDue s1 else s1) = _
    rw [rests, ite_self]
    rfl
  · have steps : startNext s1 = s2 := by
      simp only [startNext, none, s2]
    have due : setupPointIfDue s2 = setupPoint s2 := setupPointIfDue_due running pending
    have started := slotStart_unlinked (s := s) ((if_pos running).trans steps) rfl
    rw [if_pos (Option.isNone_iff_eq_none.mpr empty), due] at started
    exact congrArg Host.Outcome.next started
  · have steps : startNext s1 =
        triggerFrame { f.context with frameNumber := some number }
          { s2 with sequencer := { s2.sequencer with next := none, frameNumber := number } } := by
      simp only [startNext, next, armed]
      rfl
    simp only [triggerFrame] at steps
    rw [clock] at steps
    exact congrArg Host.Outcome.next (slotStart_unlinked (s := s) ((if_pos running).trans steps) rfl)
  · intro s4
    have steps : startNext s1 = s4 := by
      cases result : f.context.linkResult with
      | failed => exact absurd result waits
      | none => simp only [startNext, next, inSetup, result]; rfl
      | complete => simp only [startNext, next, inSetup, result]; rfl
    let s3 : State := { s2 with sequencer := { s2.sequencer with next := none, frameNumber := number } }
    obtain ⟨_, ended, engine⟩ := endSetup_leaves f.setup s3
    have running3 : (endSetup f.setup s3).engine.state = .running := (congrArg Engine.state engine).trans running
    obtain ⟨closed, engine4⟩ := closeFrame_while_running
      (c := { f.context with frameNumber := some number }) (outcome := .dropped .late) running3
    have sequencer : s4.sequencer = (endSetup f.setup s3).sequencer := closed
    rw [ended] at sequencer
    have due : setupPointIfDue s4 = setupPoint s4 :=
      setupPointIfDue_due ((congrArg Engine.state engine4).trans running3) (by rw [sequencer]; exact pending)
    have started := slotStart_unlinked (s := s) ((if_pos running).trans steps) (by rw [sequencer]; rfl)
    rw [if_pos (Option.isNone_iff_eq_none.mpr (by rw [sequencer]; exact empty)), due] at started
    exact congrArg Host.Outcome.next started
  · intro s4 linked
    have steps : startNext s1 = s4 := by
      simp only [startNext, next, inSetup, failed]
      rfl
    let s3 : State := { s2 with sequencer := { s2.sequencer with next := none, frameNumber := number } }
    obtain ⟨closed, engine4⟩ := closeFrame_while_running (s := s3)
      (c := { f.context with frameNumber := some number }) (outcome := .dropped .link) running
    have running4 : s4.engine.state = .running := (congrArg Engine.state engine4).trans running
    have present4 : s4.sequencer.present = none := (congrArg Sequencer.present closed).trans empty
    have pending4 : s4.sequencer.setupDone = false := (congrArg Sequencer.setupDone closed).trans pending
    replace steps : (if s1.engine.state = .running then startNext s1 else s1) = s4 := (if_pos running).trans steps
    refine congrArg Host.Outcome.next ?_
    by_cases isStalled : stalled
    · rw [if_pos isStalled]
      exact slotStart_stalled steps isStalled (.inr (.inl running4))
    · rw [if_neg isStalled]
      by_cases isLinked : linked
      · rw [if_pos isLinked]
        exact slotStart_linked steps isStalled isLinked
      · have started := slotStart_fine steps isStalled isLinked
        rw [if_pos (Option.isNone_iff_eq_none.mpr present4), setupPointIfDue_due running4 pending4] at started
        rw [if_neg isLinked]
        exact started

end Sys2Proof.Proofs

/-! Exposure Control's loop and the end of a tune (R91 to R100). -/

namespace Sys2Proof.Proofs

open Sys2Proof.Machine Sys2Proof.Safety

/-! ### Which frames are judged (R91) -/

/-- The frame carries the values of R40 for a step of the profile as it stands. -/
def CarriesValues (budget : Nat) (p : Profile) (c : FrameContext) (t : BracketStep) : Prop :=
  c.exposure = max 10 (min budget (if 0 ≤ t.shift then p.baseExposure * 2 ^ t.shift.natAbs
                                    else p.baseExposure / 2 ^ t.shift.natAbs)) ∧
  (c.gain : Int) = max 16 (min 256 ((p.baseGain : Int) + t.offset))

theorem presentValues_iff {budget : Nat} {p : Profile} {c : FrameContext} (roomy : 10 ≤ budget) :
    presentValues budget p c = true ↔ ∃ t rest, p.steps = t :: rest ∧ CarriesValues budget p c t := by
  unfold presentValues
  cases p.steps with
  | nil => simp
  | cons t rest =>
    have gain : c.gain = appliedGain p.baseGain t ↔
        (c.gain : Int) = max 16 (min 256 ((p.baseGain : Int) + t.offset)) := by
      rw [appliedGain_eq]
      omega
    simp only [Bool.and_eq_true, beq_iff_eq, gain]
    rw [appliedExposure, heldWithin_eq roomy, shiftedExposure_eq]
    constructor
    · exact fun values => ⟨t, rest, rfl, values⟩
    · rintro ⟨_, _, same, values⟩
      cases same
      exact values

theorem qualifies_iff {budget : Nat} {p : Profile} {c : FrameContext} {outcome : FrameOutcome}
    (roomy : 10 ≤ budget) :
    qualifies budget p c outcome = true ↔
      c.stepIndex = 0 ∧ outcome = .normal ∧ c.sizeMismatch = false ∧
        ∃ t rest, p.steps = t :: rest ∧ CarriesValues budget p c t := by
  simp only [qualifies, Bool.and_eq_true, beq_iff_eq, Bool.not_eq_eq_eq_not, Bool.not_true,
    presentValues_iff roomy, and_assoc]

theorem judgeFrame_unqualified {c : FrameContext} {outcome : FrameOutcome} {p : Profile} {s : State}
    (held : s.profile c.profile = some p) (unqualified : qualifies (slotBudget s) p c outcome = false) :
    judgeFrame c outcome s = s := by
  simp only [judgeFrame, held, unqualified, Bool.false_eq_true, if_false]

/-- A qualifying frame is judged, by the mode of its profile (R93, R97). -/
theorem judgeFrame_auto {c : FrameContext} {outcome : FrameOutcome} {p : Profile} {loop : Loop} {x : Statistics}
    {s : State} (held : s.profile c.profile = some p) (qualified : qualifies (slotBudget s) p c outcome = true)
    (measured : c.statistics = some x) (auto : p.mode = .auto loop) :
    judgeFrame c outcome s = stepAuto c.profile p x.mean s := by
  simp only [judgeFrame, held, qualified, measured, auto, if_true]

theorem judgeFrame_tuning {c : FrameContext} {outcome : FrameOutcome} {p : Profile} {loop : Loop} {x : Statistics}
    {s : State} (held : s.profile c.profile = some p) (qualified : qualifies (slotBudget s) p c outcome = true)
    (measured : c.statistics = some x) (tuning : p.mode = .tuning loop) :
    judgeFrame c outcome s = stepTuning c.profile p loop x.mean s := by
  simp only [judgeFrame, held, qualified, measured, tuning, if_true]

theorem judgeFrame_manual {c : FrameContext} {outcome : FrameOutcome} {p : Profile} {s : State}
    (held : s.profile c.profile = some p) (manual : p.mode = .manual) : judgeFrame c outcome s = s := by
  simp only [judgeFrame, held, manual, ite_self]

/-! ### The adjustment (R93 to R96) -/

/-- The frame is off target: its mean differs from the target by more than the tolerance (R93). -/
def OffTarget (p : Profile) (mean : Nat) : Prop := p.tolerance < max mean p.target - min mean p.target

theorem onTarget_iff {p : Profile} {mean : Nat} : onTarget p mean = true ↔ ¬OffTarget p mean := by
  rw [onTarget, decide_eq_true_eq, levelDifference, OffTarget]
  omega

theorem wantedProduct_eq (p : Profile) (mean : Nat) :
    wantedProduct p mean =
      max (p.baseExposure * p.baseGain / 2)
        (min (2 * (p.baseExposure * p.baseGain)) (p.baseExposure * p.baseGain * p.target / max 1 mean)) := by
  have divisor : (if mean = 0 then 1 else mean) = max 1 mean := by split <;> omega
  rw [wantedProduct, heldWithin_eq (by omega), divisor]

section

variable (budget : Nat) (p : Profile)

/-- An exposure held within the profile's limits and the slot budget (R94). -/
def heldExposure (e : Nat) : Nat :=
  max p.exposureMin (min (max p.exposureMin (min p.exposureMax budget)) e)

/-- A gain held within the profile's limits (R94). -/
def heldGain (g : Nat) : Nat := max p.gainMin (min p.gainMax g)

theorem heldWithin_exposureUpper (e : Nat) :
    heldWithin p.exposureMin (exposureUpper budget p) e = heldExposure budget p e := by
  rw [heldWithin_eq (by unfold exposureUpper; omega), heldExposure, exposureUpper]

theorem adjusted_eq (ordered : p.gainMin ≤ p.gainMax) (mean : Nat) :
    adjusted budget p mean =
      let product := p.baseExposure * p.baseGain
      let wanted := max (product / 2) (min (2 * product) (product * p.target / max 1 mean))
      if product ≤ wanted then
        { p with
          baseExposure := heldExposure budget p (wanted / p.baseGain)
          baseGain := heldGain p (wanted / heldExposure budget p (wanted / p.baseGain)) }
      else
        { p with
          baseExposure := heldExposure budget p (wanted / heldGain p (wanted / p.baseExposure))
          baseGain := heldGain p (wanted / p.baseExposure) } := by
  have gain : ∀ g, heldWithin p.gainMin p.gainMax g = heldGain p g := heldWithin_eq ordered
  simp only [adjusted, brightened, darkened, heldWithin_exposureUpper, gain, wantedProduct_eq]
  split <;> rfl

end

/-! ### The end of a tune (R97, R98, R100) -/

theorem endTune_live {id : Fin 16} {p : Profile} {o : HostId} (owned : p.life = .live o) (kind : NoticeKind)
    (frames : Nat) (s : State) :
    endTune id p kind frames s =
      postNotice o { kind := kind, subject := id.val, detail := frames }
        (s.setProfile id (some { p with mode := .manual })) := by
  simp only [endTune, owned]

theorem abortTune_live {id : Fin 16} {p : Profile} {loop : Loop} {o : HostId} {s : State}
    (held : s.profile id = some p) (tuning : p.mode = .tuning loop) (unused : s.hasActiveUser id = false)
    (owned : p.life = .live o) :
    abortTune id s =
      postNotice o { kind := .tuneAborted, subject := id.val, detail := loop.tuneFrames }
        (s.setProfile id (some { p with mode := .manual })) := by
  simp only [abortTune, held, tuning, unused, owned, Bool.false_eq_true, if_false]

theorem abortTune_orphaned {id : Fin 16} {p : Profile} {loop : Loop} {s : State}
    (held : s.profile id = some p) (tuning : p.mode = .tuning loop) (unused : s.hasActiveUser id = false)
    (orphaned : p.life = .orphaned) :
    abortTune id s = s.setProfile id (some { p with mode := .manual }) := by
  simp only [abortTune, held, tuning, unused, orphaned, Bool.false_eq_true, if_false]

theorem abortTune_used {id : Fin 16} {s : State} (used : s.hasActiveUser id = true) : abortTune id s = s := by
  unfold abortTune
  split
  · rfl
  · split
    · exact if_pos used
    · rfl

theorem setProfile_held {id : Fin 16} {p : Profile} {s : State} (held : s.profile id = some p) :
    s.setProfile id (some p) = s := by
  have same : s.profiles.set id.val (some p) = s.profiles := by
    rw [← held]
    exact Vector.set_getElem_self _
  rw [State.setProfile, same]

/-- Settles O27: the judgement by qualification, target and mode; the abort by the users of the tune. -/
theorem loopStepsAndTunesEnd : Obligations.LoopStepsAndTunesEnd := by
  refine ⟨fun c outcome p s held ordered roomy => ?_, fun id p loop s held tuning => ⟨fun used => ?_, fun unused =>
    ⟨fun orphaned => ?_, fun o owned => ?_⟩⟩⟩
  · intro budget presentValues qualifying
    have qualified : qualifies (slotBudget s) p c outcome = true ↔ qualifying :=
      qualifies_iff (show 10 ≤ s.engine.slotPeriod - s.link.description.readout - 100 by omega)
    refine ⟨fun none => ?_, fun x qualifies measured => ?_⟩
    · rcases none with manual | unqualified
      · exact judgeFrame_manual held manual
      · exact judgeFrame_unqualified held (Bool.eq_false_iff.mpr (mt qualified.mp unqualified))
    · intro product offTarget wanted exposureHeld gainHeld brightExposure darkGain q
      have step : (if onTarget p x.mean then p else adjusted (slotBudget s) p x.mean) = q := by
        simp only [q]
        by_cases off : offTarget
        · rw [if_neg (mt onTarget_iff.mp (not_not.mpr off)), if_neg (not_not.mpr off), adjusted_eq _ _ ordered]
          rfl
        · rw [if_pos (onTarget_iff.mpr off), if_pos off]
      refine ⟨fun loop auto => ?_, fun loop tuning => ?_⟩
      · rw [judgeFrame_auto held (qualified.mpr qualifies) measured auto, ← step, stepAuto]
        split
        · rw [setProfile_held held]
        · rfl
      · intro converge frames
        rw [judgeFrame_tuning held (qualified.mpr qualifies) measured tuning]
        have looped : tunedLoop loop (onTarget p x.mean) = { converge := converge, tuneFrames := frames } := by
          simp only [tunedLoop, converge]
          by_cases off : offTarget
          · rw [if_neg (mt onTarget_iff.mp (not_not.mpr off)), if_pos off]
          · rw [if_pos (onTarget_iff.mpr off), if_neg off]
        simp only [stepTuning, step, looped]
        refine ⟨fun below early => ?_, fun o owned ends => ?_⟩
        · rw [if_neg (not_le.mpr below), if_neg (not_le.mpr early)]
        · have live : q.life = .live o := by
            simp only [q]
            split
            · exact owned
            · split <;> exact owned
          by_cases done : 3 ≤ converge
          · rw [if_pos done, if_pos done, endTune_live live]
          · rw [if_neg done, if_neg done, if_pos (ends.resolve_left done), endTune_live live]
  · exact abortTune_used (hasActiveUser_iff.mpr used)
  · have none : s.hasActiveUser id = false := by
      rw [← Bool.not_eq_true, hasActiveUser_iff]
      rintro ⟨r, listed, named, active⟩
      rw [unused r listed named] at active
      cases active
    exact abortTune_orphaned held tuning none orphaned
  · have none : s.hasActiveUser id = false := by
      rw [← Bool.not_eq_true, hasActiveUser_iff]
      rintro ⟨r, listed, named, active⟩
      rw [unused r listed named] at active
      cases active
    exact abortTune_live held tuning none owned

end Sys2Proof.Proofs

/-! Requests that leave one after another: what they leave of the calendar, of the profiles and of the tunes, and the
notices they give rise to (R5, R6, R27, R59, R100). -/

namespace Sys2Proof.Proofs

open Sys2Proof.Machine Sys2Proof.Safety

/-! ### Slots that lose pairs (R59) -/

theorem without_eq_dropPairs (pair : Subscriber) (slot : Slot) :
    Slot.without pair slot = dropPairs (fun p => p == pair) slot := by
  cases slot with
  | idle => rfl
  | assigned profile step subscribers =>
    rw [Slot.without, dropPairs]
    split
    · rename_i empty
      exact (if_pos empty).symm
    · rename_i some
      exact (if_neg some).symm

theorem dropPairs_twice (a b : Subscriber → Bool) (slot : Slot) :
    dropPairs b (dropPairs a slot) = dropPairs (fun p => a p || b p) slot := by
  cases slot with
  | idle => rfl
  | assigned profile step subscribers =>
    have both : (subscribers.filter fun p => !a p).filter (fun p => !b p) =
        subscribers.filter fun p => !(a p || b p) := by
      rw [List.filter_filter]
      exact List.filter_congr fun p _ => by simp [Bool.and_comm]
    rw [dropPairs, dropPairs, ← both]
    by_cases empty : (subscribers.filter fun p => !a p) = []
    · simp [empty, dropPairs]
    · rw [if_neg empty, dropPairs]

theorem dropPairs_nobody {slot : Slot} (served : Served slot) : dropPairs (fun _ => false) slot = slot := by
  cases slot with
  | idle => rfl
  | assigned profile step subscribers =>
    rw [dropPairs]
    simpa using served profile step

/-- The active calendar after requests have left it one after another (R5, R59). -/
def withoutLeavers (gone : List Request) (slots : List Slot) : List Slot :=
  gone.foldl (fun slots r =>
    if r.isActive then slots.map (Slot.without { host := r.owner, tag := r.tag }) else slots) slots

theorem withoutLeavers_append (gone : List Request) (r : Request) (slots : List Slot) :
    withoutLeavers (gone ++ [r]) slots =
      if r.isActive then (withoutLeavers gone slots).map (Slot.without { host := r.owner, tag := r.tag })
      else withoutLeavers gone slots := by
  rw [withoutLeavers, List.foldl_append]
  rfl

/-- The pair names one of the requests, an ACTIVE one. -/
def namesActive (gone : List Request) (p : Subscriber) : Bool :=
  gone.any fun r => r.named p.host p.tag && r.isActive

theorem withoutLeavers_dropPairs (gone : List Request) (before : Subscriber → Bool) (slots : List Slot) :
    withoutLeavers gone (slots.map (dropPairs before)) =
      slots.map (dropPairs fun p => before p || namesActive gone p) := by
  induction gone generalizing before with
  | nil => simp [withoutLeavers, namesActive]
  | cons r gone ih =>
    have next : withoutLeavers (r :: gone) (slots.map (dropPairs before)) =
        withoutLeavers gone
          (slots.map (dropPairs fun p => before p || (r.named p.host p.tag && r.isActive))) := by
      rw [withoutLeavers, List.foldl_cons]
      cases active : r.isActive with
      | false => simp [withoutLeavers]
      | true =>
        have pair : ∀ p : Subscriber, (p == { host := r.owner, tag := r.tag }) = r.named p.host p.tag := fun p => by
          rw [Bool.eq_iff_iff, named_iff, beq_iff_eq, Subscriber.mk.injEq]
          exact and_congr eq_comm eq_comm
        simp only [if_true, List.map_map, Bool.and_true]
        refine congrArg (withoutLeavers gone) (List.map_congr_left fun slot _ => ?_)
        simp only [Function.comp, without_eq_dropPairs, dropPairs_twice, pair]
    rw [next, ih]
    simp only [namesActive, List.any_cons, Bool.or_assoc]

theorem withoutLeavers_eq (gone : List Request) {slots : List Slot} (served : ∀ slot ∈ slots, Served slot) :
    withoutLeavers gone slots = slots.map (dropPairs (namesActive gone)) := by
  have same : slots.map (dropPairs fun _ => false) = slots :=
    (List.map_congr_left fun slot here => dropPairs_nobody (served slot here)).trans (List.map_id _)
  have left := withoutLeavers_dropPairs gone (fun _ => false) slots
  rw [same] at left
  simpa using left

/-! ### The notices of requests that leave (R5, R100) -/

/-- Each ACTIVE request of a profile is among those that have left. -/
def AllGone (s : State) (gone : List Request) (id : Fin 16) : Prop :=
  ∀ q ∈ s.requests.table, q.profile = id → q.isActive = true → q ∈ gone

theorem AllGone.congr {s : State} {a b : List Request} {id : Fin 16} (same : ∀ q, q ∈ a ↔ q ∈ b) :
    AllGone s a id ↔ AllGone s b id :=
  ⟨fun all q here names active => (same q).mp (all q here names active),
    fun all q here names active => (same q).mpr (all q here names active)⟩

theorem tuneEnded_eq {s : State} {gone : List Request} {r : Request} {p : Profile} {loop : Loop} {o : HostId}
    (held : s.profile r.profile = some p) (tuning : p.mode = .tuning loop) (owned : p.life = .live o)
    (active : r.isActive = true) (all : AllGone s gone r.profile) :
    tuneEnded s gone r = [(o, { kind := .tuneAborted, subject := r.profile.val, detail := loop.tuneFrames })] := by
  simp only [tuneEnded, held, tuning, owned]
  exact if_pos ⟨active, all⟩

/-- No notice: the request was not ACTIVE, or another ACTIVE one stays, or no LIVE profile is in TUNING. -/
theorem tuneEnded_eq_nil {s : State} {gone : List Request} {r : Request}
    (none : ∀ p loop o, s.profile r.profile = some p → p.mode = .tuning loop → p.life = .live o →
      r.isActive = true → ¬AllGone s gone r.profile) : tuneEnded s gone r = [] := by
  unfold tuneEnded
  split
  · rfl
  · rename_i p held
    split
    · rename_i loop o tuning owned
      exact if_neg fun ⟨active, all⟩ => none p loop o held tuning owned active all
    · rfl

theorem tuneEnded_congr {s : State} {a b : List Request} (same : ∀ q, q ∈ a ↔ q ∈ b) (r : Request) :
    tuneEnded s a r = tuneEnded s b r := by
  simp only [tuneEnded, same]

theorem leavingNotices_append (s : State) (own : Request → List (HostId × Notice)) (before l : List Request)
    (r : Request) :
    leavingNotices s own before (l ++ [r]) =
      leavingNotices s own before l ++ (own r ++ tuneEnded s (r :: (l.reverse ++ before)) r) := by
  induction l generalizing before with
  | nil => simp [leavingNotices]
  | cons q l ih => simp [leavingNotices, ih]

/-! ### What the leaving of one request makes of its tune (R100) -/

/-- The mode of a profile whose tune has lost its last ACTIVE user. -/
def endedMode : Mode → Mode
  | .tuning _ => .manual
  | m => m

/-- The notice of the abort of a tune in the state at hand. -/
def abortNotices (s : State) (r : Request) : List (HostId × Notice) :=
  match s.profile r.profile with
  | none => []
  | some p =>
    match p.mode, p.life with
    | .tuning loop, .live owner =>
      if r.isActive && !s.hasActiveUser r.profile then
        [(owner, { kind := .tuneAborted, subject := r.profile.val, detail := loop.tuneFrames })]
      else []
    | _, _ => []

/-- The tune of a request ends with it: it was ACTIVE, and no other ACTIVE request is on its profile. -/
def Ends (s : State) (r : Request) : Prop := r.isActive = true ∧ s.hasActiveUser r.profile = false

theorem abortNotices_stays {s : State} {r : Request} (stays : ¬Ends s r) : abortNotices s r = [] := by
  have not : ¬(r.isActive && !s.hasActiveUser r.profile) = true := by
    simpa [Ends] using stays
  unfold abortNotices
  split
  · rfl
  · split
    · exact if_neg not
    · rfl

theorem tellLeft_stays {s : State} {r : Request} (stays : ¬Ends s r) : tellLeft r s = s := by
  unfold tellLeft
  split
  · rename_i active
    exact abortTune_used (by simpa [Ends, active] using stays)
  · rfl

/-- The abort of a tune touches the mode of its profile and posts at most one notice. -/
theorem tellLeft_ends {s : State} {r : Request} (ends : Ends s r) :
    (∀ id, (tellLeft r s).profile id =
      if id = r.profile then (s.profile id).map fun p => { p with mode := endedMode p.mode } else s.profile id) ∧
    (tellLeft r s).ports = told (abortNotices s r) s := by
  obtain ⟨active, unused⟩ := ends
  rw [tellLeft, if_pos active]
  have kept : ∀ t : State, t = s → (s.profile r.profile).map (fun p => { p with mode := endedMode p.mode }) =
      s.profile r.profile → ∀ id, t.profile id =
        if id = r.profile then (s.profile id).map fun p => { p with mode := endedMode p.mode } else s.profile id :=
    fun t same fixed id => by
      subst same
      split
      · rename_i here
        rw [here, fixed]
      · rfl
  cases held : s.profile r.profile with
  | none =>
    have same : abortTune r.profile s = s := by simp only [abortTune, held]
    refine ⟨kept _ same (by simp [held]), ?_⟩
    rw [same, abortNotices, held]
    rfl
  | some p =>
    cases mode : p.mode with
    | tuning loop =>
      cases life : p.life with
      | live o =>
        rw [abortTune_live held mode unused life]
        refine ⟨fun id => ?_, ?_⟩
        · rw [postNotice_eq]
          change (s.setProfile r.profile _).profile id = _
          rw [State.setProfile_profile]
          split
          · rename_i here
            rw [here, held, Option.map_some, mode, endedMode]
          · rfl
        · simp only [abortNotices, held, mode, life, active, unused, Bool.not_false, Bool.and_self, if_true]
          rw [told_cons, told_nil]
          simp only [postNotice_eq]
          rfl
      | orphaned =>
        rw [abortTune_orphaned held mode unused life]
        refine ⟨fun id => ?_, ?_⟩
        · rw [State.setProfile_profile]
          split
          · rename_i here
            rw [here, held, Option.map_some, mode, endedMode]
          · rfl
        · simp only [abortNotices, held, mode, life]
          rfl
    | manual =>
      have same : abortTune r.profile s = s := by simp only [abortTune, held, mode]
      refine ⟨kept _ same (by simp only [held, Option.map_some, mode, endedMode]; rw [← mode]), ?_⟩
      rw [same, abortNotices, held]
      simp only [mode]
      rfl
    | auto loop =>
      have same : abortTune r.profile s = s := by simp only [abortTune, held, mode]
      refine ⟨kept _ same (by simp only [held, Option.map_some, mode, endedMode]; rw [← mode]), ?_⟩
      rw [same, abortNotices, held]
      simp only [mode]
      rfl

theorem tellLeft_ports (r : Request) (s : State) : (tellLeft r s).ports = told (abortNotices s r) s := by
  by_cases ends : Ends s r
  · exact (tellLeft_ends ends).2
  · rw [tellLeft_stays ends, abortNotices_stays ends]
    rfl

end Sys2Proof.Proofs

/-! The state after requests have left one after another (R5, R6, R27, R59, R100). -/

namespace Sys2Proof.Proofs

open Sys2Proof.Machine Sys2Proof.Safety

/-! ### The profiles of requests that leave (R27, R100) -/

/-- The tune of a profile has ended with the requests that have left: one of them was ACTIVE on it, and every ACTIVE
request on it is among them. -/
def EndedWith (s : State) (gone : List Request) (id : Fin 16) : Prop :=
  (∃ r ∈ gone, r.profile = id ∧ r.isActive = true) ∧ AllGone s gone id

open Classical in
/-- The mode of a profile after requests have left. -/
noncomputable def modeWithout (s : State) (gone : List Request) (id : Fin 16) (mode : Mode) : Mode :=
  if EndedWith s gone id then endedMode mode else mode

theorem modeWithout_ended {s : State} {gone : List Request} {id : Fin 16} (ended : EndedWith s gone id) (mode : Mode) :
    modeWithout s gone id mode = endedMode mode := if_pos ended

theorem modeWithout_goes {s : State} {gone : List Request} {id : Fin 16} (goes : ¬EndedWith s gone id)
    (mode : Mode) : modeWithout s gone id mode = mode := if_neg goes

theorem modeWithout_congr {s : State} {a b : List Request} {id : Fin 16}
    (same : EndedWith s a id ↔ EndedWith s b id) : modeWithout s a id = modeWithout s b id := by
  funext mode
  by_cases ended : EndedWith s a id
  · rw [modeWithout_ended ended, modeWithout_ended (same.mp ended)]
  · rw [modeWithout_goes ended, modeWithout_goes (mt same.mpr ended)]

/-- How many of the requests that have left counted as references to a profile; none where they are suspended and
keep their entries. -/
def fallenBy (freed : Bool) (gone : List Request) (id : Fin 16) : Nat :=
  if freed then gone.countP fun r => r.profile == id else 0

/-- A profile after so many references have fallen: an ORPHANED one that has none left is freed (R27). -/
def referencesFallen (n : Nat) (p : Profile) : Option Profile :=
  if p.life = .orphaned ∧ n ≠ 0 ∧ p.references ≤ n then none
  else some { p with references := p.references - n }

theorem referencesFallen_zero (p : Profile) : referencesFallen 0 p = some p := by
  simp [referencesFallen]

/-- The reference count of a profile falls by one more. -/
theorem referencesFallen_succ (n : Nat) (p : Profile) (mode : Mode) :
    ((referencesFallen n p).map fun q => { q with mode := mode }).bind (referencesFallen 1) =
      (referencesFallen (n + 1) p).map fun q => { q with mode := mode } := by
  unfold referencesFallen
  by_cases orphaned : p.life = .orphaned
  · by_cases before : n ≠ 0 ∧ p.references ≤ n
    · rw [if_pos ⟨orphaned, before⟩, if_pos ⟨orphaned, by omega, by omega⟩]
      rfl
    · rw [if_neg fun now => before now.2]
      by_cases last : p.references ≤ n + 1
      · rw [if_pos (by exact ⟨orphaned, by omega, last⟩)]
        simp [orphaned]
        omega
      · rw [if_neg fun now => last now.2.2]
        simp only [Option.map_some, Option.bind_some]
        rw [if_neg (by simp only [ne_eq, one_ne_zero, not_false_eq_true, true_and, not_and, not_le]; omega)]
        simp [Nat.sub_sub]
  · simp [orphaned, Nat.sub_sub]

theorem lowerReference_profile (id j : Fin 16) (s : State) :
    (lowerReference j s).profile id = if id = j then (s.profile id).bind (referencesFallen 1) else s.profile id := by
  cases held : s.profile j with
  | none =>
    simp only [lowerReference, held]
    split
    · rename_i here
      rw [here, held]
      rfl
    · rfl
  | some p =>
    rw [lowerReference_eq held, State.setProfile_profile]
    split
    · rename_i here
      rw [here, held, Option.bind_some, referencesFallen]
      have one : p.references - 1 = 0 ↔ 1 ≠ 0 ∧ p.references ≤ 1 := by omega
      simp only [one]
    · rfl

/-- The entry of a profile after requests have left. -/
noncomputable def profileWithout (s : State) (freed : Bool) (gone : List Request) (id : Fin 16) : Option Profile :=
  (s.profile id).bind fun p =>
    (referencesFallen (fallenBy freed gone id) p).map fun q => { q with mode := modeWithout s gone id p.mode }

/-! ### Requests that leave -/

/-- The state after requests have left `s`: `gone`, in their order, each with its own notices and that of the tune it
ends; `freed` says that their entries are cleared. Which ACTIVE requests stay is said by their profiles, the rest of
the request table is left open. -/
structure Left (s : State) (own : Request → List (HostId × Notice)) (freed : Bool) (gone : List Request)
    (t : State) : Prop where
  ports : t.ports = told (leavingNotices s own [] gone) s
  calendar : t.calendar = { s.calendar with active := withoutLeavers gone s.calendar.active }
  profile : ∀ id, t.profile id = profileWithout s freed gone id
  users : ∀ id, t.hasActiveUser id = false ↔ AllGone s gone id
  counter : t.requests.counter = s.requests.counter
  touches : TouchesTables s t

theorem allGone_nil {s : State} {id : Fin 16} : AllGone s [] id ↔ s.hasActiveUser id = false := by
  rw [← Bool.not_eq_true, hasActiveUser_iff]
  constructor
  · rintro all ⟨r, here, names, active⟩
    exact absurd (all r here names active) List.not_mem_nil
  · intro none q here names active
    exact absurd ⟨q, here, names, active⟩ none

theorem Left.nil (s : State) (own : Request → List (HostId × Notice)) (freed : Bool) : Left s own freed [] s where
  ports := rfl
  calendar := rfl
  profile id := by
    have none : ¬EndedWith s [] id := fun ⟨⟨r, here, _⟩, _⟩ => absurd here List.not_mem_nil
    have zero : fallenBy freed [] id = 0 := by cases freed <;> rfl
    cases held : s.profile id with
    | none => simp [profileWithout, held]
    | some p => simp [profileWithout, held, modeWithout_goes none, zero, referencesFallen_zero]
  users id := allGone_nil.symm
  counter := rfl
  touches := .refl s

section

variable {s t v : State} {own : Request → List (HostId × Notice)} {freed : Bool} {gone : List Request} {r : Request}

/-- The leaving of a request changes nothing for the tunes of another profile, nor, if it was not ACTIVE, for any. -/
theorem endedWith_append_other {id : Fin 16} (other : ¬(r.profile = id ∧ r.isActive = true)) :
    EndedWith s (gone ++ [r]) id ↔ EndedWith s gone id := by
  have mem : ∀ q, q.profile = id → q.isActive = true → (q ∈ gone ++ [r] ↔ q ∈ gone) := fun q names active => by
    rw [List.mem_append, List.mem_singleton]
    exact ⟨fun here => here.resolve_right fun same => other (same ▸ ⟨names, active⟩), .inl⟩
  refine and_congr ⟨?_, ?_⟩ ⟨fun all q here names active => ?_, fun all q here names active => ?_⟩
  · rintro ⟨q, here, names, active⟩
    exact ⟨q, (mem q names active).mp here, names, active⟩
  · rintro ⟨q, here, names, active⟩
    exact ⟨q, (mem q names active).mpr here, names, active⟩
  · exact (mem q names active).mp (all q here names active)
  · exact (mem q names active).mpr (all q here names active)

/-- An ACTIVE request that is still there keeps the tune of its profile. -/
theorem not_endedWith {id : Fin 16} (here : r ∈ s.requests.table) (stays : r ∉ gone) (names : r.profile = id)
    (active : r.isActive = true) : ¬EndedWith s gone id := fun ⟨_, all⟩ => stays (all r here names active)

theorem fallenBy_append (id : Fin 16) :
    fallenBy freed (gone ++ [r]) id = fallenBy freed gone id + if freed = true ∧ r.profile = id then 1 else 0 := by
  unfold fallenBy
  cases freed with
  | false => rfl
  | true =>
    simp only [if_true, List.countP_append, true_and, List.countP_singleton, beq_iff_eq]

/-- The entry of a profile once one more request has left, before its tune has been told. -/
theorem profileWithout_append (id : Fin 16) :
    (if freed = true ∧ r.profile = id then (profileWithout s freed gone id).bind (referencesFallen 1)
      else profileWithout s freed gone id) =
      (s.profile id).bind fun p =>
        (referencesFallen (fallenBy freed (gone ++ [r]) id) p).map fun q =>
          { q with mode := modeWithout s gone id p.mode } := by
  rw [fallenBy_append]
  cases held : s.profile id with
  | none => simp [profileWithout, held]
  | some p =>
    rw [profileWithout, held, Option.bind_some, Option.bind_some]
    split
    · rw [referencesFallen_succ]
    · rfl

/-- How the state stands once a request has left the calendar, its entry has been dealt with and its own notices have
been posted, before its tune is told. -/
structure Leaves (s : State) (own : Request → List (HostId × Notice)) (freed : Bool) (gone : List Request)
    (r : Request) (t v : State) : Prop where
  ports : v.ports = told (own r) t
  calendar : v.calendar = (leaveCalendar r t).calendar
  profile : ∀ id, v.profile id =
    if freed = true ∧ r.profile = id then (t.profile id).bind (referencesFallen 1) else t.profile id
  users : ∀ id, v.hasActiveUser id = false ↔ AllGone s (gone ++ [r]) id
  counter : v.requests.counter = t.requests.counter
  touches : TouchesTables t v

/-- The notices of the tune that the leaving of a request ends are those the statements name (R100). -/
theorem abortNotices_eq (left : Left s own freed gone t) (leaves : Leaves s own freed gone r t v)
    (here : r ∈ s.requests.table) (stays : r ∉ gone) :
    abortNotices v r = tuneEnded s (r :: (gone.reverse ++ [])) r := by
  have mem : ∀ q, q ∈ r :: (gone.reverse ++ []) ↔ q ∈ gone ++ [r] := by simp [or_comm]
  rw [tuneEnded_congr mem]
  have profile : v.profile r.profile = (s.profile r.profile).bind fun p =>
      (referencesFallen (fallenBy freed (gone ++ [r]) r.profile) p).map fun q =>
        { q with mode := modeWithout s gone r.profile p.mode } := by
    rw [leaves.profile, left.profile, profileWithout_append]
  by_cases ends : Ends v r
  · obtain ⟨active, unused⟩ := ends
    have all : AllGone s (gone ++ [r]) r.profile := (leaves.users r.profile).mp unused
    cases held : s.profile r.profile with
    | none =>
      rw [tuneEnded_eq_nil fun p loop o held' => by rw [held] at held'; cases held']
      simp only [abortNotices, profile, held, Option.bind_none]
    | some p =>
      simp only [held, Option.bind_some, modeWithout_goes (not_endedWith here stays rfl active)] at profile
      cases mode : p.mode with
      | tuning loop =>
        cases life : p.life with
        | live o =>
          rw [tuneEnded_eq held mode life active all]
          simp only [referencesFallen, life, reduceCtorEq, false_and, if_false, Option.map_some] at profile
          simp only [abortNotices, profile, mode, active, unused, Bool.not_false, Bool.and_self, if_true]
        | orphaned =>
          rw [tuneEnded_eq_nil fun p' loop o held' _ live => by
            rw [held] at held'
            cases held'
            rw [life] at live
            cases live]
          simp only [referencesFallen, life, true_and] at profile
          split at profile
          · simp only [abortNotices, profile, Option.map_none]
          · simp only [abortNotices, profile, Option.map_some, mode]
      | manual =>
        rw [tuneEnded_eq_nil fun p' loop o held' tuning => by
          rw [held] at held'
          cases held'
          rw [mode] at tuning
          cases tuning]
        cases fallen : referencesFallen (fallenBy freed (gone ++ [r]) r.profile) p with
        | none => simp only [abortNotices, profile, fallen, Option.map_none]
        | some q => simp only [abortNotices, profile, fallen, Option.map_some, mode]
      | auto loop =>
        rw [tuneEnded_eq_nil fun p' loop o held' tuning => by
          rw [held] at held'
          cases held'
          rw [mode] at tuning
          cases tuning]
        cases fallen : referencesFallen (fallenBy freed (gone ++ [r]) r.profile) p with
        | none => simp only [abortNotices, profile, fallen, Option.map_none]
        | some q => simp only [abortNotices, profile, fallen, Option.map_some, mode]
  · rw [abortNotices_stays ends, tuneEnded_eq_nil]
    exact fun p loop o _ _ _ active all => ends ⟨active, (leaves.users r.profile).mpr all⟩

/-- One more request leaves. -/
theorem Left.leave (left : Left s own freed gone t) (leaves : Leaves s own freed gone r t v)
    (here : r ∈ s.requests.table) (stays : r ∉ gone) : Left s own freed (gone ++ [r]) (tellLeft r v) := by
  have requests : (tellLeft r v).requests = v.requests := tellLeft_requests r v
  refine ⟨?_, ?_, fun id => ?_, fun id => ?_, ?_, ?_⟩
  · have own' : told (own r) t = told (own r) { s with ports := told (leavingNotices s own [] gone) s } :=
      told_congr (t := { s with ports := told (leavingNotices s own [] gone) s }) left.ports _
    rw [tellLeft_ports, abortNotices_eq left leaves here stays, leavingNotices_append, told_append, told_append]
    refine told_congr (t := { s with ports := told (own r) _ }) (leaves.ports.trans own') _
  · rw [tellLeft_calendar, leaves.calendar, leaveCalendar_eq, left.calendar, withoutLeavers_append]
  · have before : v.profile id = (s.profile id).bind fun p =>
        (referencesFallen (fallenBy freed (gone ++ [r]) id) p).map fun q =>
          { q with mode := modeWithout s gone id p.mode } := by
      rw [leaves.profile, left.profile, profileWithout_append]
    by_cases ends : Ends v r
    · rw [(tellLeft_ends ends).1 id, before]
      split
      · rename_i same
        subst same
        have all : AllGone s (gone ++ [r]) r.profile := (leaves.users r.profile).mp ends.2
        have ended : EndedWith s (gone ++ [r]) r.profile := ⟨⟨r, by simp, rfl, ends.1⟩, all⟩
        have goes : ¬EndedWith s gone r.profile := not_endedWith here stays rfl ends.1
        simp only [profileWithout, modeWithout_ended ended, modeWithout_goes goes]
        cases s.profile r.profile with
        | none => rfl
        | some p => simp [Function.comp_def]
      · rename_i other
        rw [profileWithout, modeWithout_congr (endedWith_append_other fun same => other same.1.symm)]
    · rw [tellLeft_stays ends, before, profileWithout]
      by_cases tuned : r.profile = id ∧ r.isActive = true
      · obtain ⟨rfl, active⟩ := tuned
        have goes : ¬EndedWith s (gone ++ [r]) r.profile :=
          fun ended => ends ⟨active, (leaves.users r.profile).mpr ended.2⟩
        rw [modeWithout_congr (iff_of_false goes (not_endedWith here stays rfl active))]
      · rw [modeWithout_congr (endedWith_append_other tuned)]
  · rw [← leaves.users id, State.hasActiveUser, requests]
    rfl
  · rw [requests, leaves.counter, left.counter]
  · exact left.touches.trans (leaves.touches.trans (tellLeft_touches r v))

end

end Sys2Proof.Proofs

/-! CANCEL, and the freeing of the requests of a detached host (R5, R6, R11, R22). -/

namespace Sys2Proof.Proofs

open Sys2Proof.Machine Sys2Proof.Safety

/-! ### What the statements say of requests that have left -/

/-- Leaving requests are told apart by the profiles and the requests alone. -/
theorem leavingNotices_of_tables {s t : State} (requests : t.requests = s.requests) (profiles : t.profiles = s.profiles)
    (own : Request → List (HostId × Notice)) (before l : List Request) :
    leavingNotices t own before l = leavingNotices s own before l := by
  have ended : ∀ gone r, tuneEnded t gone r = tuneEnded s gone r := fun gone r => by
    simp only [tuneEnded, State.profile, profiles, requests]
  induction l generalizing before with
  | nil => rfl
  | cons r l ih => simp only [leavingNotices, ended, ih]

theorem Left.modeLeft {s t : State} {own : Request → List (HostId × Notice)} {freed : Bool}
    {gone leavers : List Request} (left : Left s own freed gone t) (same : ∀ r, r ∈ leavers ↔ r ∈ gone) (id : Fin 16)
    (mode : Mode) : modeLeft t.requests.table leavers id mode = modeWithout s gone id mode := by
  have unused : (∀ q ∈ t.requests.table, q.profile = id → q.isActive = false) ↔ AllGone s gone id := by
    rw [← left.users id, ← Bool.not_eq_true, hasActiveUser_iff]
    constructor
    · rintro all ⟨q, here, names, active⟩
      rw [all q here names] at active
      cases active
    · intro none q here names
      rw [← Bool.not_eq_true]
      exact fun active => none ⟨q, here, names, active⟩
  have ended : (∃ r ∈ leavers, r.profile = id ∧ r.isActive = true) ∧
      (∀ q ∈ t.requests.table, q.profile = id → q.isActive = false) ↔ EndedWith s gone id := by
    rw [unused, EndedWith]
    simp only [same]
  cases mode with
  | tuning loop =>
    by_cases over' : EndedWith s gone id
    · rw [modeWithout_ended over']
      exact if_pos (ended.mpr over')
    · rw [modeWithout_goes over']
      exact if_neg (mt ended.mp over')
  | manual => by_cases over' : EndedWith s gone id <;> simp [Safety.modeLeft, modeWithout, endedMode]
  | auto loop => by_cases over' : EndedWith s gone id <;> simp [Safety.modeLeft, modeWithout, endedMode]

/-- The trigger at the end of a report or a detach, by the requests that have left (R7). -/
theorem Left.rebuild {s t : State} {own : Request → List (HostId × Notice)} {freed : Bool} {gone : List Request}
    (left : Left s own freed gone t) (flag : Bool) :
    rebuildIfWaiting flag t =
      { t with
        calendar :=
          { t.calendar with
            builder :=
              if flag = true ∧ t.requests.table.any (fun r => r.state == .waiting) = true then
                triggered s.calendar.builder t
              else s.calendar.builder } } := by
  have builder : t.calendar.builder = s.calendar.builder := by rw [left.calendar]
  rw [rebuildIfWaiting_eq, builder]
  rfl

/-- A trigger reads the tables alone. -/
theorem triggered_of_tables {s t : State} (requests : t.requests = s.requests) (profiles : t.profiles = s.profiles)
    (b : Builder) : triggered b t = triggered b s := by
  have same : snapshot t = snapshot s := by
    simp only [snapshot, State.stepCount, State.profile, requests, profiles]
  unfold triggered
  rw [same]

theorem profiles_ext {s t : State} (same : ∀ id, s.profile id = t.profile id) : s.profiles = t.profiles :=
  Vector.ext fun i less => same ⟨i, less⟩

theorem requests_ext {a b : RequestManager} (table : a.table = b.table) (counter : a.counter = b.counter) :
    a = b := by
  cases a
  cases b
  simp_all

/-! ### An entry is freed (R6) -/

/-- The requests of a table without those that have left. -/
def tableWithout (s : State) (gone : List Request) : List Request :=
  s.requests.table.filter fun q => !gone.contains q

theorem users_tableWithout {s t : State} {gone : List Request} (table : t.requests.table = tableWithout s gone)
    (id : Fin 16) : t.hasActiveUser id = false ↔ AllGone s gone id := by
  rw [← Bool.not_eq_true, hasActiveUser_iff, table]
  simp only [tableWithout, List.mem_filter, Bool.not_eq_true', ← Bool.not_eq_true, List.contains_iff_mem]
  constructor
  · intro none q here names active
    by_contra stays
    exact none ⟨q, ⟨here, stays⟩, names, active⟩
  · rintro all ⟨q, ⟨here, stays⟩, names, active⟩
    exact stays (all q here names active)

theorem tableWithout_append {s : State} (ok : RequestsOk s) {gone : List Request} {r : Request}
    (here : r ∈ s.requests.table) :
    (tableWithout s gone).filter (fun q => !q.named r.owner r.tag) = tableWithout s (gone ++ [r]) := by
  rw [tableWithout, tableWithout, List.filter_filter]
  refine List.filter_congr fun q inTable => ?_
  have same : q.named r.owner r.tag = true ↔ q = r := by
    rw [named_iff]
    exact ⟨fun named => named_unique ok inTable here named.1 named.2, fun same => same ▸ ⟨rfl, rfl⟩⟩
  rw [Bool.eq_iff_iff]
  simp only [Bool.and_eq_true, Bool.not_eq_true', ← Bool.not_eq_true, same, List.contains_iff_mem, List.mem_append,
    List.mem_singleton, not_or]
  exact and_comm

theorem freeEntry_profile (r : Request) (s : State) (id : Fin 16) :
    (freeEntry r s).profile id =
      if r.profile = id then (s.profile id).bind (referencesFallen 1) else s.profile id := by
  rw [freeEntry, clearEntry, lowerReference_profile, leaveCalendar_eq]
  simp only [eq_comm (a := id)]
  rfl

theorem freeEntry_eq (r : Request) (s : State) :
    freeEntry r s =
      { s with
        requests := { table := s.requests.table.filter fun q => !q.named r.owner r.tag, counter := s.requests.counter }
        profiles := (freeEntry r s).profiles
        calendar := (leaveCalendar r s).calendar } := by
  rw [freeEntry, clearEntry, leaveCalendar_eq]
  unfold lowerReference
  split
  · rfl
  · split <;> rfl

/-- The entry of a request freed, and its own notices posted. -/
theorem leaves_of_users {s t : State} {own : Request → List (HostId × Notice)} {gone : List Request} {r : Request}
    (users : ∀ id, (freeEntry r t).hasActiveUser id = false ↔ AllGone s (gone ++ [r]) id) :
    Leaves s own true gone r t { freeEntry r t with ports := told (own r) t } where
  ports := rfl
  calendar := by rw [freeEntry_eq]
  profile id := (freeEntry_profile r t id).trans (if_congr (by simp) rfl rfl)
  users := users
  counter := by rw [freeEntry_eq]
  touches := by
    rw [freeEntry_eq]
    rfl

theorem leaves_freeEntry {s t : State} {own : Request → List (HostId × Notice)} {gone : List Request} {r : Request}
    (ok : RequestsOk s) (table : t.requests.table = tableWithout s gone) (here : r ∈ s.requests.table) :
    Leaves s own true gone r t { freeEntry r t with ports := told (own r) t } :=
  leaves_of_users (users_tableWithout (by rw [freeEntry_table, table, tableWithout_append ok here]))

/-! ### CANCEL (R11) -/

theorem cancelled_eq (r : Request) (s : State) :
    cancelled r s =
      rebuildIfWaiting r.isActive
        (tellLeft r
          { freeEntry r s with ports := told [(r.owner, { kind := .cancelled, subject := r.tag, detail := 0 })] s }) := by
  have ports : (freeEntry r s).ports = s.ports := by rw [freeEntry_eq]
  have posted' : postNotice r.owner { kind := .cancelled, subject := r.tag, detail := 0 } (freeEntry r s) =
      { freeEntry r s with ports := told [(r.owner, { kind := .cancelled, subject := r.tag, detail := 0 })] s } := by
    rw [← told_congr ports, told_cons, told_nil, postNotice_eq]
    rfl
  rw [cancelled, posted']

/-- The state in which one request has left, its entry freed and its notices and those of its tune posted. -/
def withoutRequest (own : Request → List (HostId × Notice)) (r : Request) (p : Profile) (s : State) : State :=
  { s with
    ports := told (leavingNotices s own [] [r]) s
    requests := { s.requests with table := s.requests.table.filter fun q => q != r }
    profiles :=
      s.profiles.set r.profile
        (if p.life = .orphaned ∧ p.references ≤ 1 then none
        else
          some
            { p with
              references := p.references - 1
              mode := Safety.modeLeft (s.requests.table.filter fun q => q != r) [r] r.profile p.mode })
    calendar :=
      { s.calendar with
        active :=
          if r.isActive then s.calendar.active.map (Slot.without { host := r.owner, tag := r.tag })
          else s.calendar.active } }

section

variable {own : Request → List (HostId × Notice)} {r : Request} {p : Profile} {s : State}

theorem left_freeEntry (ok : RequestsOk s) (here : r ∈ s.requests.table) :
    Left s own true [r] (tellLeft r { freeEntry r s with ports := told (own r) s }) ∧
      (tellLeft r { freeEntry r s with ports := told (own r) s }).requests.table =
        s.requests.table.filter fun q => q != r := by
  have all : tableWithout s [] = s.requests.table := List.filter_true ..
  refine ⟨(Left.nil s own true).leave (leaves_freeEntry ok all.symm here) here List.not_mem_nil, ?_⟩
  rw [tellLeft_requests]
  change (freeEntry r s).requests.table = _
  rw [freeEntry_table, ← all, tableWithout_append ok here, all, tableWithout]
  exact List.filter_congr fun q _ => by
    rw [Bool.eq_iff_iff]
    simp

/-- The profiles once one request has left: the count and the mode of its own, no other's. -/
theorem profileWithout_one (held : s.profile r.profile = some p) (id : Fin 16) :
    profileWithout s true [r] id =
      if id = r.profile then
        if p.life = .orphaned ∧ p.references ≤ 1 then none
        else some { p with references := p.references - 1, mode := modeWithout s [r] r.profile p.mode }
      else s.profile id := by
  rw [profileWithout]
  split
  · rename_i same
    subst same
    have count : fallenBy true [r] r.profile = 1 := by simp [fallenBy]
    rw [held, Option.bind_some, count, referencesFallen]
    by_cases freed : p.life = .orphaned ∧ p.references ≤ 1
    · rw [if_pos freed, if_pos ⟨freed.1, one_ne_zero, freed.2⟩]
      rfl
    · rw [if_neg freed, if_neg fun now => freed ⟨now.1, now.2.2⟩]
      rfl
  · rename_i other
    have none : ¬EndedWith s [r] id := fun ⟨⟨q, inGone, names, _⟩, _⟩ =>
      other (by rw [← names, List.mem_singleton.mp inGone])
    have count : fallenBy true [r] id = 0 := by simp [fallenBy, Ne.symm other]
    cases entry : s.profile id with
    | none => rfl
    | some q => simp [count, referencesFallen_zero, modeWithout_goes none]

theorem tellLeft_freeEntry (ok : RequestsOk s) (here : r ∈ s.requests.table)
    (held : s.profile r.profile = some p) :
    tellLeft r { freeEntry r s with ports := told (own r) s } = withoutRequest own r p s := by
  obtain ⟨left, table⟩ := left_freeEntry (own := own) ok here
  generalize tellLeft r { freeEntry r s with ports := told (own r) s } = t at left table
  have profiles : t.profiles = (withoutRequest own r p s).profiles := by
    refine profiles_ext fun id => ?_
    rw [left.profile, profileWithout_one held, ← left.modeLeft (leavers := [r]) (fun _ => Iff.rfl), table]
    exact (State.setProfile_profile s r.profile id _).symm
  have requests : t.requests = (withoutRequest own r p s).requests :=
    requests_ext table left.counter
  rw [left.touches, left.ports, left.calendar, profiles, requests]
  rfl

end

/-- Settles O20: CANCEL by the request it names. -/
theorem cancelFreesTheRequest : Obligations.CancelFreesTheRequest := by
  intro h cmd tag s takes read ok
  have runs : exec (.cancel h) s =
      .next ((withRequest h cmd (taken s h .cancel) fun r =>
        accept [] (cancelled r (taken s h .cancel))).finish h cmd) :=
    congrArg _ (takeCommand_takes takes _)
  refine ⟨fun unnamed => ?_, fun r p here owner name held => ?_⟩
  · rw [runs, withRequest_none read (s := taken s h .cancel) unnamed, finish_refuse]
  · have found : (taken s h .cancel).request h tag = some r := request_of_named ok here owner name
    subst owner name
    intro rest own s2
    have left : tellLeft r { freeEntry r (taken s r.owner .cancel) with
        ports := told (own r) (taken s r.owner .cancel) } = s2 :=
      tellLeft_freeEntry (s := taken s r.owner .cancel) (requestsOk_of_table ok rfl) here held
    have rebuilt : cancelled r (taken s r.owner .cancel) = rebuildIfWaiting r.isActive s2 := by
      rw [cancelled_eq, ← left]
    rw [runs, withRequest_some read found, finish_accept, rebuilt, rebuildIfWaiting_eq]
    have waiting : s2.anyWaiting = true ↔ ∃ q ∈ rest, q.state = .waiting := by
      simp [State.anyWaiting, s2]
    by_cases due : r.isActive = true ∧ ∃ q ∈ rest, q.state = .waiting
    · rw [if_pos due, if_pos ⟨due.1, waiting.mpr due.2⟩]
    · rw [if_neg due, if_neg fun now => due ⟨now.1, waiting.mp now.2⟩]

end Sys2Proof.Proofs

/-! The detach of a host's requests (R22, R149). -/

namespace Sys2Proof.Proofs

open Sys2Proof.Machine Sys2Proof.Safety

/-! ### The requests of a detached host, freed one after another -/

/-- No request of a detached host has a notice of its own. -/
def noNotices (_ : Request) : List (HostId × Notice) := []

theorem freeDetached_eq (acc : State × Bool) (r : Request) :
    freeDetached acc r =
      (tellLeft r { freeEntry r acc.1 with ports := told (noNotices r) acc.1 }, acc.2 || r.isActive) := by
  have same : { freeEntry r acc.1 with ports := told (noNotices r) acc.1 } = freeEntry r acc.1 := by
    rw [freeEntry_eq]
    rfl
  rw [same, freeDetached]

theorem foldl_freeDetached {s : State} (ok : RequestsOk s) (l : List Request) {gone : List Request} {t : State}
    (left : Left s noNotices true gone t) (table : t.requests.table = tableWithout s gone) (flag : Bool)
    (here : ∀ r ∈ l, r ∈ s.requests.table) (distinct : (gone ++ l).Nodup) :
    Left s noNotices true (gone ++ l) (l.foldl freeDetached (t, flag)).1 ∧
      (l.foldl freeDetached (t, flag)).1.requests.table = tableWithout s (gone ++ l) ∧
      (l.foldl freeDetached (t, flag)).2 = (flag || l.any fun r => r.isActive) := by
  induction l generalizing gone t flag with
  | nil => simpa using ⟨left, table⟩
  | cons r l ih =>
    have inTable : r ∈ s.requests.table := here r (List.mem_cons_self ..)
    have stays : r ∉ gone := fun inGone =>
      (List.nodup_append.mp distinct).2.2 r inGone r (List.mem_cons_self ..) rfl
    rw [List.append_cons] at distinct ⊢
    rw [List.foldl_cons, freeDetached_eq, List.any_cons, ← Bool.or_assoc]
    refine ih (left.leave (leaves_freeEntry ok table inTable) inTable stays) ?_ _
      (fun q inRest => here q (List.mem_cons_of_mem _ inRest)) distinct
    rw [tellLeft_requests]
    change (freeEntry r t).requests.table = _
    rw [freeEntry_table, table, tableWithout_append ok inTable]

/-- A table in which every name is used once holds every request once. -/
theorem table_nodup {s : State} (ok : RequestsOk s) : s.requests.table.Nodup :=
  ok.named.imp fun {a b} other (same : a = b) => other (by rw [same]; exact ⟨rfl, rfl⟩)

theorem byTag_unique {s : State} (ok : RequestsOk s) {h : HostId} {order : List Request}
    (perm : order.Perm (s.requestsOf h)) (ascending : order.Pairwise fun a b => a.tag < b.tag) :
    byTag (s.requestsOf h) = order := by
  have symm : Std.Antisymm fun a b : Request => a.tag < b.tag := ⟨fun a b less more => absurd less (Nat.lt_asymm more)⟩
  exact ((byTag_perm _).trans perm.symm).eq_of_pairwise' (byTag_ascending ok h) ascending

theorem freeRequestsOf_eq {s : State} (ok : RequestsOk s) {h : HostId} {order : List Request}
    (perm : order.Perm (s.requestsOf h)) (ascending : order.Pairwise fun a b => a.tag < b.tag) :
    ∃ t, freeRequestsOf h s = rebuildIfWaiting (order.any fun r => r.isActive) t ∧
      Left s noNotices true order t ∧ t.requests.table = tableWithout s order := by
  obtain ⟨left, table, flag⟩ := foldl_freeDetached ok order (Left.nil s noNotices true) (List.filter_true ..).symm false
    (fun r here => List.mem_of_mem_filter (perm.mem_iff.mp here))
    (perm.nodup_iff.mpr ((table_nodup ok).filter _))
  refine ⟨(order.foldl freeDetached (s, false)).1, ?_, left, table⟩
  have freed : freeRequestsOf h s =
      let r := (byTag (s.requestsOf h)).foldl freeDetached (s, false)
      rebuildIfWaiting r.2 r.1 := rfl
  rw [freed, byTag_unique ok perm ascending]
  dsimp only
  rw [flag, Bool.false_or]

/-! ### What it leaves of the profiles and the ports -/

/-- The entry of a profile once some of the requests counted on it have left (R27). -/
theorem profileWithout_counted {s : State} {gone : List Request} {id : Fin 16} {p : Profile} {n : Nat}
    (counted : p.references = naming s id) (orphan : p.life = .orphaned → p.references ≠ 0)
    (held : s.profile id = some p) (count : fallenBy true gone id = n)
    (within : n ≤ naming s id) :
    profileWithout s true gone id =
      if p.life = .orphaned ∧ p.references = n then none
      else some { p with references := p.references - n, mode := modeWithout s gone id p.mode } := by
  rw [profileWithout, held, Option.bind_some, count, referencesFallen]
  by_cases freed : p.life = .orphaned ∧ p.references = n
  · have some' : p.references ≠ 0 := orphan freed.1
    rw [if_pos freed, if_pos ⟨freed.1, by omega, by omega⟩]
    rfl
  · rw [if_neg freed, if_neg fun now => freed ⟨now.1, by omega⟩]
    rfl

theorem tuneEnded_owner {s : State} {gone : List Request} {r : Request} {n : HostId × Notice}
    (posted : n ∈ tuneEnded s gone r) :
    ∃ id p loop, s.profile id = some p ∧ p.life = .live n.1 ∧ p.mode = .tuning loop := by
  unfold tuneEnded at posted
  split at posted
  · cases posted
  · rename_i p held
    split at posted
    · rename_i loop o tuning owned
      split at posted
      · rw [List.mem_singleton.mp posted]
        exact ⟨_, p, loop, held, owned, tuning⟩
      · cases posted
    · cases posted

/-- Requests without notices of their own tell only owners of profiles in TUNING. -/
theorem leavingNotices_owner {s : State} {gone l : List Request} {n : HostId × Notice}
    (posted : n ∈ leavingNotices s noNotices gone l) :
    ∃ id p loop, s.profile id = some p ∧ p.life = .live n.1 ∧ p.mode = .tuning loop := by
  induction l generalizing gone with
  | nil => cases posted
  | cons r l ih =>
    simp only [leavingNotices, noNotices, List.nil_append, List.mem_append] at posted
    exact posted.elim tuneEnded_owner ih

theorem told_get_untouched {notices : List (HostId × Notice)} {s : State} {g : HostId}
    (none : (s.port g).attached = false ∨ ∀ n ∈ notices, n.1 ≠ g) : (told notices s).get g = s.port g := by
  rw [told_get]
  rcases none with detached | others
  · rw [if_neg (by rw [detached]; exact Bool.false_ne_true)]
  · have nothing : toPort g notices = [] := by
      rw [toPort, List.filter_eq_nil_iff.mpr fun n here => by simpa using others n here]
      rfl
    rw [nothing, List.foldl_nil, ite_self]

/-- Settles O11: the requests leave in ascending tag order, then the one trigger. -/
theorem detachFreesTheHostsRequests : Obligations.DetachFreesTheHostsRequests := by
  intro h d order s okRequests okProfiles okCalendar detached under next perm ascending mine wasActive
  let s1 : State := s.setPort h { s.port h with detaching := some { d with next := .profiles } }
  have runs : exec (.detachFreeRequests h) s = .next (freeRequestsOf h s1) :=
    congrArg Host.Outcome.next (next ▸ detachStep_due under .profiles (freeRequestsOf h))
  obtain ⟨t, freed, left, table⟩ := freeRequestsOf_eq (s := s1) (requestsOk_of_table okRequests rfl) perm ascending
  have same : ∀ r, r ∈ mine ↔ r ∈ order := fun r => perm.mem_iff.symm
  have active : order.any (fun r => r.isActive) = wasActive := perm.any_eq
  have told' : t.ports = told (leavingNotices s noNotices [] order) s1 := by
    rw [left.ports, leavingNotices_of_tables (s := s) (t := s1) rfl rfl]
  have port : ∀ g, t.port g = _ := fun g => (congrArg (PerHost.get · g) told').trans (told_get _ s1 g)
  have port1 : ∀ g, g ≠ h → s1.port g = s.port g := fun g other => (State.setPort_port ..).trans (if_neg other)
  have self1 : s1.port h = { s.port h with detaching := some { d with next := .profiles } } :=
    (State.setPort_port ..).trans (if_pos rfl)
  rw [left.rebuild, active] at freed
  refine ⟨_, runs.trans (congrArg _ freed), requests_ext ?_ left.counter, ?_, ?_, ?_, fun id p held => ?_,
    fun id absent => ?_, told', ?_, fun g other => ?_, fun g other untuned => ?_, ?_, ?_, ?_, ?_, ?_, ?_⟩
  · refine table.trans (List.filter_congr fun r here => ?_)
    rw [Bool.eq_iff_iff]
    simp only [Bool.not_eq_true', ← Bool.not_eq_true, List.contains_iff_mem, ← same, bne_iff_ne]
    have listed : r ∈ s.requests.table := here
    simp [mine, listed]
  · change t.calendar.active = _
    rw [left.calendar]
    refine (withoutLeavers_eq order ((slotsOk_iff _).mp okCalendar.active).2).trans
      (List.map_congr_left fun slot _ => congrArg (dropPairs · slot) (funext fun p => ?_))
    exact perm.any_eq
  · change t.calendar.generation = _
    rw [left.calendar]
    rfl
  · rw [triggered_of_tables (s := t) rfl rfl]
    rfl
  · intro n
    have counted : fallenBy true order id = n := perm.countP_eq _
    have within : n ≤ naming s1 id := (List.filter_sublist ..).countP_le
    have ok : ProfileOk s id p := (profilesOk_iff.mp okProfiles).1 id p held
    have entry := profileWithout_counted (s := s1) ok.counted (fun orphaned => (ok.orphan orphaned).2) held counted within
    rw [← left.modeLeft same] at entry
    exact (left.profile id).trans entry
  · refine (left.profile id).trans ?_
    rw [profileWithout]
    exact congrArg (Option.bind · _) absent
  · refine (congrArg (PerHost.get · h) told').trans ((told_get_untouched (.inl ?_)).trans self1)
    rw [self1]
    exact detached
  · change ({ t.port g with notices := (s.port g).notices } : Port) = s.port g
    rw [port g, port1 g other]
  · refine (congrArg (PerHost.get · g) told').trans ((told_get_untouched (.inr fun n posted same => ?_)).trans
      (port1 g other))
    obtain ⟨id, p, loop, held, owned, tuning⟩ := leavingNotices_owner posted
    exact untuned id p loop held (same ▸ owned) tuning
  all_goals
    dsimp only
    rw [left.touches]
    rfl

end Sys2Proof.Proofs

/-! Miss reports and the suspensions they lead to (R5, R19, R20, R100). -/

namespace Sys2Proof.Proofs

open Sys2Proof.Machine Sys2Proof.Safety

/-! ### The requests that a list of pairs names -/

/-- The live requests that the pairs name and a test picks, in the order of the pairs. -/
def pickedBy (s : State) (test : Request → Bool) (pairs : List Subscriber) : List Request :=
  pairs.filterMap fun p => s.requests.table.find? fun r => r.owner == p.host && r.tag == p.tag && test r

section

variable {s : State} (ok : RequestsOk s) {test : Request → Bool} {pairs : List Subscriber} {p : Subscriber} {r : Request}

include ok

theorem find?_named_iff {h : HostId} {tag : Nat} :
    s.requests.table.find? (fun r => r.owner == h && r.tag == tag && test r) = some r ↔
      r ∈ s.requests.table ∧ r.owner = h ∧ r.tag = tag ∧ test r = true := by
  constructor
  · intro found
    have named := List.find?_some found
    simp only [Bool.and_eq_true, beq_iff_eq, and_assoc] at named
    exact ⟨List.mem_of_find?_eq_some found, named⟩
  · rintro ⟨here, rfl, rfl, picked⟩
    cases found : s.requests.table.find? fun q => q.owner == r.owner && q.tag == r.tag && test q with
    | none =>
      have missed := List.find?_eq_none.mp found r here
      simp [picked] at missed
    | some q =>
      have named := List.find?_some found
      simp only [Bool.and_eq_true, beq_iff_eq, and_assoc] at named
      exact congrArg some (named_unique ok (List.mem_of_find?_eq_some found) here named.1 named.2.1)

theorem mem_pickedBy :
    r ∈ pickedBy s test pairs ↔
      r ∈ s.requests.table ∧ { host := r.owner, tag := r.tag } ∈ pairs ∧ test r = true := by
  rw [pickedBy, List.mem_filterMap]
  constructor
  · rintro ⟨p, inPairs, found⟩
    obtain ⟨here, owner, name, picked⟩ := (find?_named_iff ok).mp found
    exact ⟨here, by rwa [owner, name], picked⟩
  · rintro ⟨here, inPairs, picked⟩
    exact ⟨_, inPairs, (find?_named_iff ok).mpr ⟨here, rfl, rfl, picked⟩⟩

/-- One more pair, and the request it names, if the test picks it. -/
theorem pickedBy_append_found (found : s.request p.host p.tag = some r) :
    pickedBy s test (pairs ++ [p]) = pickedBy s test pairs ++ if test r then [r] else [] := by
  obtain ⟨owner, name⟩ := request_named found
  have here := request_mem found
  rw [pickedBy, List.filterMap_append]
  refine congrArg (pickedBy s test pairs ++ ·) ?_
  split
  · rename_i picked
    have hit := (find?_named_iff ok).mpr ⟨here, owner, name, picked⟩
    simp only [List.filterMap_cons, hit, List.filterMap_nil]
  · rename_i missed
    have miss : s.requests.table.find? (fun r => r.owner == p.host && r.tag == p.tag && test r) = none :=
      Option.eq_none_iff_forall_ne_some.mpr fun q picked => by
        obtain ⟨inTable, owner', name', picks⟩ := (find?_named_iff ok).mp picked
        rw [named_unique ok inTable here (owner'.trans owner.symm) (name'.trans name.symm)] at picks
        exact missed picks
    simp only [List.filterMap_cons, miss, List.filterMap_nil]

end

theorem pickedBy_append_none {s : State} {test : Request → Bool} {pairs : List Subscriber} {p : Subscriber}
    (unnamed : s.request p.host p.tag = none) : pickedBy s test (pairs ++ [p]) = pickedBy s test pairs := by
  rw [pickedBy, List.filterMap_append]
  refine (congrArg (pickedBy s test pairs ++ ·) ?_).trans (List.append_nil _)
  have miss : s.requests.table.find? (fun r => r.owner == p.host && r.tag == p.tag && test r) = none :=
    List.find?_eq_none.mpr fun q here => by
      have other := request_eq_none.mp unnamed q here
      simp only [Bool.and_eq_true, beq_iff_eq]
      exact fun named => other named.1
  simp only [List.filterMap_cons, miss, List.filterMap_nil]

/-- A state with another request table, the ACTIVE requests of every profile being the same. -/
theorem Left.setTable {s t : State} {own : Request → List (HostId × Notice)} {freed : Bool} {gone : List Request}
    (left : Left s own freed gone t) {table : List Request}
    (users : ∀ id, (t.setTable table).hasActiveUser id = false ↔ AllGone s gone id) :
    Left s own freed gone (t.setTable table) where
  ports := left.ports
  calendar := left.calendar
  profile := left.profile
  users := users
  counter := left.counter
  touches := left.touches.trans rfl

/-- A request is found in a table whose entries have been changed under their names. -/
theorem request_map {s t : State} {f : Request → Request} (table : t.requests.table = s.requests.table.map f)
    (names : ∀ r, (f r).owner = r.owner ∧ (f r).tag = r.tag) (h : HostId) (tag : Nat) :
    t.request h tag = (s.request h tag).map f := by
  have named : Request.named h tag ∘ f = Request.named h tag := funext fun r => by
    simp only [Function.comp, Request.named, (names r).1, (names r).2]
  rw [State.request, table, List.find?_map, named]
  rfl

/-! ### A miss report (R19, R20) -/

/-- The request reaches its miss limit with the miss at hand. -/
def reachesLimit (r : Request) : Bool :=
  saturatingSucc 255 r.misses == r.missLimit && r.missLimit != 0 && r.state != .suspended

/-- A request that a miss is charged to. -/
def charged (r : Request) : Request :=
  { r with
    misses := saturatingSucc 255 r.misses
    state := if reachesLimit r then .suspended else r.state }

/-- The entry of a request once the pairs of a miss report have been gone through. -/
def chargedBy (pairs : List Subscriber) (r : Request) : Request :=
  if pairs.contains { host := r.owner, tag := r.tag } then charged r else r

theorem chargedBy_named (pairs : List Subscriber) (r : Request) :
    (chargedBy pairs r).owner = r.owner ∧ (chargedBy pairs r).tag = r.tag := by
  unfold chargedBy
  split <;> exact ⟨rfl, rfl⟩

theorem chargedBy_profile (pairs : List Subscriber) (r : Request) : (chargedBy pairs r).profile = r.profile := by
  unfold chargedBy
  split <;> rfl

theorem charged_isActive (r : Request) : (charged r).isActive = (r.isActive && !reachesLimit r) := by
  cases reaches : reachesLimit r <;> simp [charged, Request.isActive, reaches, RequestState.isActive]

/-- The notice of a suspension, with the misses of the request (R20). -/
def suspensionNotice (r : Request) : List (HostId × Notice) :=
  [(r.owner, { kind := .suspended, subject := r.tag, detail := saturatingSucc 255 r.misses })]

theorem users_chargedBy {s t : State} (ok : RequestsOk s) {pairs : List Subscriber}
    (table : t.requests.table = s.requests.table.map (chargedBy pairs)) (id : Fin 16) :
    t.hasActiveUser id = false ↔ AllGone s (pickedBy s reachesLimit pairs) id := by
  have active : ∀ r ∈ s.requests.table, (chargedBy pairs r).isActive = true ↔
      r.isActive = true ∧ r ∉ pickedBy s reachesLimit pairs := fun r here => by
    rw [mem_pickedBy ok]
    by_cases named : { host := r.owner, tag := r.tag } ∈ pairs
    · simp [chargedBy, named, charged_isActive, here]
    · simp [chargedBy, named]
  rw [← Bool.not_eq_true, hasActiveUser_iff, table]
  constructor
  · intro none q here names isActive
    by_contra stays
    exact none ⟨_, List.mem_map_of_mem here, (chargedBy_profile ..).trans names, (active q here).mpr ⟨isActive, stays⟩⟩
  · rintro all ⟨_, inTable, names, isActive⟩
    obtain ⟨q, here, rfl⟩ := List.mem_map.mp inTable
    obtain ⟨isActive, stays⟩ := (active q here).mp isActive
    exact stays (all q here ((chargedBy_profile ..).symm.trans names) isActive)

/-- What a miss report has made of the state, the pairs it has gone through being given. -/
structure Charged (s : State) (pairs : List Subscriber) (acc : State × Bool) : Prop where
  left : Left s suspensionNotice false (pickedBy s reachesLimit pairs) acc.1
  table : acc.1.requests.table = s.requests.table.map (chargedBy pairs)
  active : acc.2 = (pickedBy s reachesLimit pairs).any fun r => r.isActive

theorem Charged.nil {s : State} : Charged s [] (s, false) where
  left := Left.nil ..
  table := (List.map_congr_left fun r _ => by simp [chargedBy]).trans (List.map_id _) |>.symm
  active := rfl

/-- The table with one request replaced under its name. -/
theorem table_charged {s : State} (ok : RequestsOk s) {pairs : List Subscriber} {r q : Request}
    (here : r ∈ s.requests.table) (isCharged : q = charged r) :
    (s.requests.table.map (chargedBy pairs)).map (fun x => if x.named r.owner r.tag then q else x) =
      s.requests.table.map (chargedBy (pairs ++ [{ host := r.owner, tag := r.tag }])) := by
  subst isCharged
  rw [List.map_map]
  refine List.map_congr_left fun x inTable => ?_
  have names := chargedBy_named pairs x
  have same : (chargedBy pairs x).named r.owner r.tag = true ↔ x = r := by
    rw [named_iff, names.1, names.2]
    exact ⟨fun named => named_unique ok inTable here named.1 named.2, fun same => same ▸ ⟨rfl, rfl⟩⟩
  simp only [Function.comp]
  by_cases isR : x = r
  · subst isR
    rw [if_pos (same.mpr rfl)]
    simp [chargedBy]
  · rw [if_neg (mt same.mp isR)]
    have other : ({ host := x.owner, tag := x.tag } : Subscriber) ≠ { host := r.owner, tag := r.tag } := fun pair => by
      obtain ⟨owner, name⟩ := Subscriber.mk.inj pair
      exact isR (named_unique ok inTable here owner name)
    simp [chargedBy, other]

/-! ### One tag of a report -/

section

variable {s : State} (ok : RequestsOk s) {pairs : List Subscriber} {acc : State × Bool} {h : HostId} {tag : Nat}

theorem chargeMiss_none (unnamed : acc.1.request h tag = none) : chargeMiss h acc tag = acc := by
  rw [chargeMiss, unnamed]

/-- The state of a suspension before the tune of the request is told. -/
def suspending (r : Request) (s : State) : State :=
  postNotice r.owner { kind := .suspended, subject := r.tag, detail := r.misses }
    ((leaveCalendar r s).updateRequest r.owner r.tag fun q => { q with state := .suspended })

/-- A miss charged to a live request, which it suspends or not. -/
theorem chargeMiss_some {r : Request} (found : acc.1.request h tag = some r) :
    chargeMiss h acc tag =
      let r' := { r with misses := saturatingSucc 255 r.misses }
      let t := acc.1.updateRequest r.owner r.tag fun _ => r'
      if reachesLimit r then (tellLeft r (suspending r' t), acc.2 || r.isActive) else (t, acc.2) := by
  obtain ⟨owner, name⟩ := request_named found
  have reaches : (saturatingSucc 255 r.misses = r.missLimit ∧ r.missLimit ≠ 0 ∧ r.state ≠ .suspended) ↔
      reachesLimit r = true := by
    simp [reachesLimit, and_assoc]
  subst owner name
  simp only [chargeMiss, found]
  exact if_congr reaches rfl rfl

theorem suspending_eq (r : Request) (s : State) :
    suspending r s =
      { s with
        ports := told [(r.owner, { kind := .suspended, subject := r.tag, detail := r.misses })] s
        calendar := (leaveCalendar r s).calendar
        requests :=
          { s.requests with
            table := s.requests.table.map fun q =>
              if q.named r.owner r.tag then { q with state := .suspended } else q } } := by
  rw [suspending, leaveCalendar_eq, postNotice_eq, told_cons, told_nil, postNotice_eq]
  rfl

/-- The charge and the suspension of one request, as one change under its name. -/
theorem map_suspended {table : List Request} {r : Request} (reaches : reachesLimit r = true) :
    (table.map fun q => if q.named r.owner r.tag then { r with misses := saturatingSucc 255 r.misses } else q).map
        (fun q => if q.named r.owner r.tag then { q with state := .suspended } else q) =
      table.map fun q => if q.named r.owner r.tag then charged r else q := by
  rw [List.map_map]
  refine List.map_congr_left fun q _ => ?_
  simp only [Function.comp]
  by_cases named : q.named r.owner r.tag = true
  · rw [if_pos named, if_pos named]
    have self : Request.named r.owner r.tag { r with misses := saturatingSucc 255 r.misses } = true := named_self r
    rw [if_pos self, charged, if_pos reaches]
  · rw [if_neg named, if_neg named, if_neg named]

include ok

/-- One more tag of a report has been gone through. -/
theorem Charged.charge (before : Charged s pairs acc) (fresh : { host := h, tag := tag } ∉ pairs) :
    Charged s (pairs ++ [{ host := h, tag := tag }]) (chargeMiss h acc tag) := by
  have request := request_map before.table (chargedBy_named pairs) h tag
  cases found : s.request h tag with
  | none =>
    rw [found, Option.map_none] at request
    rw [chargeMiss_none request]
    have same := pickedBy_append_none (test := reachesLimit) (pairs := pairs) (p := { host := h, tag := tag }) found
    refine ⟨same ▸ before.left, before.table.trans (List.map_congr_left fun r here => ?_), same ▸ before.active⟩
    have other : ({ host := r.owner, tag := r.tag } : Subscriber) ≠ { host := h, tag := tag } := fun pair => by
      obtain ⟨owner, name⟩ := Subscriber.mk.inj pair
      exact request_eq_none.mp found r here ⟨owner, name⟩
    simp [chargedBy, other]
  | some r =>
    have here := request_mem found
    obtain ⟨owner, name⟩ := request_named found
    subst owner name
    have uncharged : chargedBy pairs r = r := by simp [chargedBy, fresh]
    rw [found, Option.map_some, uncharged] at request
    rw [chargeMiss_some request]
    have picked := pickedBy_append_found ok (test := reachesLimit) (pairs := pairs)
      (p := { host := r.owner, tag := r.tag }) found
    dsimp only
    cases reaches : reachesLimit r with
    | true =>
      rw [reaches, if_pos rfl] at picked
      rw [if_pos rfl]
      let r' : Request := { r with misses := saturatingSucc 255 r.misses }
      let t := acc.1.updateRequest r.owner r.tag fun _ => r'
      have table : (suspending r' t).requests.table =
          s.requests.table.map (chargedBy (pairs ++ [{ host := r.owner, tag := r.tag }])) := by
        rw [suspending_eq, ← table_charged ok here rfl, ← before.table]
        exact map_suspended reaches
      have leaves : Leaves s suspensionNotice false (pickedBy s reachesLimit pairs) r acc.1 (suspending r' t) := by
        refine ⟨?_, ?_, fun id => ?_, fun id => ?_, ?_, ?_⟩
        · rw [suspending_eq]
          exact told_congr (s := t) (t := acc.1) rfl _
        · rw [suspending_eq, leaveCalendar_eq, leaveCalendar_eq]
          rfl
        · rw [suspending_eq, if_neg (by simp)]
          rfl
        · rw [users_chargedBy ok table, picked]
        · rw [suspending_eq]
          rfl
        · rw [suspending_eq]
          rfl
      have stays : r ∉ pickedBy s reachesLimit pairs := fun inPairs => fresh ((mem_pickedBy ok).mp inPairs).2.1
      refine ⟨picked ▸ before.left.leave leaves here stays, ?_, ?_⟩
      · rw [tellLeft_requests]
        exact table
      · rw [picked, List.any_append, ← before.active]
        simp
    | false =>
      rw [reaches, if_neg Bool.false_ne_true, List.append_nil] at picked
      rw [if_neg Bool.false_ne_true]
      have table : (acc.1.updateRequest r.owner r.tag fun _ =>
            { r with misses := saturatingSucc 255 r.misses }).requests.table =
          s.requests.table.map (chargedBy (pairs ++ [{ host := r.owner, tag := r.tag }])) := by
        have isCharged : { r with misses := saturatingSucc 255 r.misses } = charged r := by
          rw [charged, if_neg (by rw [reaches]; exact Bool.false_ne_true)]
        rw [← table_charged ok here isCharged, ← before.table]
        rfl
      refine ⟨picked ▸ before.left.setTable fun id => ?_, table, picked ▸ before.active⟩
      rw [← picked]
      exact users_chargedBy ok table id

end

theorem foldl_chargeMiss {s : State} (ok : RequestsOk s) (h : HostId) (tags : List Nat) {pairs : List Subscriber}
    {acc : State × Bool} (before : Charged s pairs acc)
    (distinct : (pairs ++ tags.map (Subscriber.mk h)).Nodup) :
    Charged s (pairs ++ tags.map (Subscriber.mk h)) (tags.foldl (chargeMiss h) acc) := by
  induction tags generalizing pairs acc with
  | nil => rwa [List.map_nil, List.append_nil]
  | cons tag tags ih =>
    have fresh : { host := h, tag := tag } ∉ pairs := fun inPairs =>
      (List.nodup_append.mp distinct).2.2 _ inPairs _ (List.mem_map_of_mem (List.mem_cons_self ..)) rfl
    rw [List.map_cons, List.append_cons] at distinct ⊢
    exact ih (before.charge ok fresh) distinct

/-! ### The report as a whole -/

theorem leavingNotices_congr {s : State} {own own' : Request → List (HostId × Notice)} {l : List Request}
    (same : ∀ r ∈ l, own r = own' r) (gone : List Request) :
    leavingNotices s own gone l = leavingNotices s own' gone l := by
  induction l generalizing gone with
  | nil => rfl
  | cons r l ih =>
    rw [leavingNotices, leavingNotices, same r (List.mem_cons_self ..),
      ih fun q inRest => same q (List.mem_cons_of_mem _ inRest)]

/-- Suspended requests keep their entries, and with them the references to their profiles. -/
theorem profileWithout_kept (s : State) (gone : List Request) (id : Fin 16) :
    profileWithout s false gone id = (s.profile id).map fun p => { p with mode := modeWithout s gone id p.mode } := by
  cases held : s.profile id with
  | none => simp [profileWithout, held]
  | some p => simp [profileWithout, held, fallenBy, referencesFallen_zero]

/-- Settles O23: the report tag by tag, then the one trigger. -/
theorem missesAreChargedAndSuspend : Obligations.MissesAreChargedAndSuspend := by
  intro h tags s ok okCalendar distinct t named raised suspends leavers suspended
  have result := foldl_chargeMiss ok h tags Charged.nil
    (distinct.map fun _ _ same => (Subscriber.mk.inj same).2)
  rw [List.nil_append] at result
  generalize on : tags.foldl (chargeMiss h) (s, false) = acc at result
  obtain ⟨left, table, flag⟩ := result
  have reported : t = rebuildIfWaiting acc.2 acc.1 := by
    rw [← on]
    rfl
  have suspends' : ∀ r, suspends r = (named r && reachesLimit r) := fun r => by
    simp only [suspends, reachesLimit, Bool.and_assoc]
    rfl
  have gone : pickedBy s reachesLimit (tags.map (Subscriber.mk h)) = leavers := by
    rw [pickedBy, List.filterMap_map]
    refine List.filterMap_congr fun tag inTags => congrArg (s.requests.table.find? ·) (funext fun r => ?_)
    rw [suspends', Bool.eq_iff_iff]
    simp only [named, Bool.and_eq_true, beq_iff_eq, List.contains_iff_mem]
    constructor
    · rintro ⟨⟨owner, name⟩, reaches⟩
      exact ⟨⟨owner, name⟩, ⟨owner, name ▸ inTags⟩, reaches⟩
    · rintro ⟨pair, _, reaches⟩
      exact ⟨pair, reaches⟩
  have inLeavers : ∀ r, r ∈ leavers ↔ r ∈ s.requests.table ∧ suspends r = true := fun r => by
    rw [← gone, mem_pickedBy ok, suspends']
    simp only [named, List.mem_map, Subscriber.mk.injEq, Bool.and_eq_true, beq_iff_eq, List.contains_iff_mem, and_assoc]
    exact and_congr_right fun _ => ⟨fun ⟨⟨tag, inTags, owner, name⟩, reaches⟩ => ⟨owner.symm, name ▸ inTags, reaches⟩,
      fun ⟨owner, inTags, reaches⟩ => ⟨⟨_, inTags, owner.symm, rfl⟩, reaches⟩⟩
  have owned : ∀ r ∈ leavers, r.owner = h := fun r here => by
    have picks := ((inLeavers r).mp here).2
    simp only [suspends', named, Bool.and_eq_true, beq_iff_eq] at picks
    exact picks.1.1
  rw [gone] at left flag
  have anyLeft : ∀ test : Request → Bool,
      leavers.any test = s.requests.table.any fun r => suspends r && test r := fun test => by
    rw [Bool.eq_iff_iff]
    simp [inLeavers, and_assoc]
  rw [left.rebuild, flag, anyLeft] at reported
  have profile : ∀ id, t.profile id = acc.1.profile id := fun id => by rw [reported]; rfl
  have requests : t.requests = acc.1.requests := by rw [reported]
  refine ⟨fun id => ?_, ?_⟩
  · rw [profile, left.profile, profileWithout_kept, requests]
    exact congrArg (Option.map · (s.profile id)) (funext fun p => by rw [left.modeLeft fun _ => Iff.rfl])
  · have ports : acc.1.ports = told (leavingNotices s suspended [] leavers) s := by
      have same : ∀ r ∈ leavers, suspensionNotice r = suspended r := fun r here => by
        rw [suspensionNotice, owned r here]
        rfl
      rw [left.ports, leavingNotices_congr same]
    have active : acc.1.calendar.active = s.calendar.active.map
        (dropPairs fun p => s.requests.table.any fun r => r.named p.host p.tag && suspends r && r.isActive) := by
      rw [left.calendar]
      refine (withoutLeavers_eq leavers ((slotsOk_iff _).mp okCalendar.active).2).trans
        (List.map_congr_left fun slot _ => congrArg (dropPairs · slot) (funext fun p => ?_))
      rw [namesActive, anyLeft]
      exact congrArg (s.requests.table.any ·) (funext fun r => by
        rw [← Bool.and_assoc, Bool.and_comm (suspends r)])
    have entries : acc.1.requests.table = s.requests.table.map fun r =>
        if named r then
          { r with misses := raised r, state := if suspends r then .suspended else r.state }
        else r := by
      rw [table]
      refine List.map_congr_left fun r _ => ?_
      have inPairs : (tags.map (Subscriber.mk h)).contains { host := r.owner, tag := r.tag } = named r := by
        rw [Bool.eq_iff_iff]
        simp only [named, Bool.and_eq_true, beq_iff_eq, List.contains_iff_mem, List.mem_map, Subscriber.mk.injEq]
        exact ⟨fun ⟨tag, inTags, owner, name⟩ => ⟨owner.symm, name ▸ inTags⟩,
          fun ⟨owner, inTags⟩ => ⟨_, inTags, owner.symm, rfl⟩⟩
      rw [chargedBy, inPairs, charged, suspends']
      cases isNamed : named r with
      | false => rfl
      | true => rfl
    have manager : acc.1.requests = { s.requests with table := acc.1.requests.table } :=
      requests_ext rfl left.counter
    rw [triggered_of_tables (s := acc.1) requests (by rw [reported])]
    rw [requests, ← entries, ← active, ← ports, ← manager]
    rw [reported]
    conv_lhs => rw [left.touches]
    rw [left.calendar]
    rfl

end Sys2Proof.Proofs

/-! Occasions at a close, and the bursts they complete (R4 to R6, R16, R17, R27). -/

namespace Sys2Proof.Proofs

open Sys2Proof.Machine Sys2Proof.Safety

/-! ### The occasions of a frame (R16, R17) -/

/-- The frame is one of the last step of a request's profile. -/
def atLastStep (s : State) (c : FrameContext) (r : Request) : Bool := c.stepIndex + 1 == s.stepCount r.profile

/-- The frame completes the burst of a request. -/
def finishing (s : State) (c : FrameContext) (r : Request) : Bool :=
  atLastStep s c r && match r.kind with
    | .stream => false
    | .burst count done => done + 1 == count

/-- A request that an occasion is counted for. -/
def advanced (s : State) (c : FrameContext) (r : Request) : Request :=
  match r.kind with
  | .stream => r
  | .burst count done => if atLastStep s c r then { r with kind := .burst count (done + 1) } else r

/-- The entry of a request once the pairs of a subscriber list have been gone through. -/
def advancedBy (s : State) (c : FrameContext) (pairs : List Subscriber) (r : Request) : Request :=
  if pairs.contains { host := r.owner, tag := r.tag } then advanced s c r else r

/-- The notice of a burst that is done (R17). -/
def doneNotice (r : Request) : List (HostId × Notice) :=
  [(r.owner, { kind := .done, subject := r.tag, detail := 0 })]

section

variable (s : State) (c : FrameContext) (pairs : List Subscriber) (r : Request)

/-- An occasion counts in the kind of a request alone. -/
theorem advanced_eq : ∃ kind, advanced s c r = { r with kind := kind } := by
  unfold advanced
  split
  · exact ⟨_, rfl⟩
  · split
    · exact ⟨_, rfl⟩
    · exact ⟨_, rfl⟩

theorem advancedBy_eq : ∃ kind, advancedBy s c pairs r = { r with kind := kind } := by
  unfold advancedBy
  split
  · exact advanced_eq s c r
  · exact ⟨_, rfl⟩

theorem advancedBy_named :
    (advancedBy s c pairs r).owner = r.owner ∧ (advancedBy s c pairs r).tag = r.tag := by
  obtain ⟨_, same⟩ := advancedBy_eq s c pairs r
  rw [same]
  exact ⟨rfl, rfl⟩

theorem advancedBy_fresh {pairs : List Subscriber} {r : Request} (fresh : { host := r.owner, tag := r.tag } ∉ pairs) :
    advancedBy s c pairs r = r := by
  simp [advancedBy, fresh]

theorem advancedBy_other {pairs : List Subscriber} {q r : Request}
    (other : ¬(q.owner = r.owner ∧ q.tag = r.tag)) :
    advancedBy s c (pairs ++ [{ host := r.owner, tag := r.tag }]) q = advancedBy s c pairs q := by
  simp [advancedBy, other]

theorem advancedBy_last {pairs : List Subscriber} {r : Request} :
    advancedBy s c (pairs ++ [{ host := r.owner, tag := r.tag }]) r = advanced s c r := by
  simp [advancedBy]

end

/-! ### One pair of a subscriber list -/

theorem lowerReference_ports (id : Fin 16) (s : State) (ports : PerHost Port) :
    lowerReference id { s with ports := ports } = { lowerReference id s with ports := ports } := by
  cases held : s.profile id with
  | none =>
    have held' : ({ s with ports := ports } : State).profile id = none := held
    simp only [lowerReference, held, held']
  | some p =>
    rw [lowerReference_eq held, lowerReference_eq (s := { s with ports := ports }) held]
    rfl

theorem clearEntry_ports (r : Request) (s : State) (ports : PerHost Port) :
    clearEntry r { s with ports := ports } = { clearEntry r s with ports := ports } :=
  lowerReference_ports r.profile (s.setTable _) ports

/-- The state of a burst that is done before the tune of its profile is told. -/
theorem finished_eq (r : Request) (s : State) :
    clearEntry r (postNotice r.owner { kind := .done, subject := r.tag, detail := 0 } (leaveCalendar r s)) =
      { freeEntry r s with ports := told (doneNotice r) s } := by
  have posted' : ∀ u : State, u.ports = s.ports →
      postNotice r.owner { kind := .done, subject := r.tag, detail := 0 } u = { u with ports := told (doneNotice r) s } :=
    fun u same => by
      rw [doneNotice, told_cons, told_nil, postNotice_eq, postNotice_eq, State.port, State.port, same]
      simp only [State.setPort, same]
  rw [posted' _ (by rw [leaveCalendar_eq]), clearEntry_ports, freeEntry]

/-- What occasions have made of the state, the pairs gone through being given. -/
structure Counted (s : State) (c : FrameContext) (pairs : List Subscriber) (acc : State × Bool) : Prop where
  left : Left s doneNotice true (pickedBy s (finishing s c) pairs) acc.1
  table : acc.1.requests.table =
    (tableWithout s (pickedBy s (finishing s c) pairs)).map (advancedBy s c pairs)
  active : acc.2 = (pickedBy s (finishing s c) pairs).any fun r => r.isActive

theorem Counted.nil {s : State} {c : FrameContext} : Counted s c [] (s, false) where
  left := Left.nil ..
  table := by
    have all : tableWithout s [] = s.requests.table := List.filter_true ..
    refine Eq.trans ?_ (congrArg (List.map (advancedBy s c [])) all.symm)
    exact ((List.map_congr_left fun r _ => advancedBy_fresh s c (by simp)).trans (List.map_id _)).symm
  active := rfl

section

variable {s t : State} (ok : RequestsOk s) {c : FrameContext} {pairs : List Subscriber} {acc : State × Bool}

/-- Counting leaves the ACTIVE requests of every profile as they are. -/
theorem users_advanced {gone : List Request}
    (table : t.requests.table = (tableWithout s gone).map (advancedBy s c pairs)) (id : Fin 16) :
    t.hasActiveUser id = false ↔ AllGone s gone id := by
  rw [← users_tableWithout (s := s) (t := s.setTable (tableWithout s gone)) rfl id]
  have same : t.hasActiveUser id = (s.setTable (tableWithout s gone)).hasActiveUser id := by
    simp only [State.hasActiveUser, table, State.setTable_table, List.any_map]
    refine congrArg (List.any _ ·) (funext fun r => ?_)
    obtain ⟨_, eq⟩ := advancedBy_eq s c pairs r
    simp only [Function.comp, eq]
    rfl
  rw [same]

/-- A live request that is still there keeps its profile from being freed, and with it the profile's steps. -/
theorem stepCount_left {own : Request → List (HostId × Notice)} {gone : List Request} (okProfiles : ProfilesOk s)
    (left : Left s own true gone t) (sub : ∀ r ∈ gone, r ∈ s.requests.table) (distinct : gone.Nodup) {r : Request}
    (here : r ∈ s.requests.table) (stays : r ∉ gone) : t.stepCount r.profile = s.stepCount r.profile := by
  have entry := left.profile r.profile
  cases held : s.profile r.profile with
  | none =>
    rw [profileWithout, held, Option.bind_none] at entry
    simp only [State.stepCount, entry, held]
  | some p =>
    have okProfile := (profilesOk_iff.mp okProfiles).1 r.profile p held
    have fewer : fallenBy true gone r.profile < p.references := by
      have within : (r :: gone).Subperm s.requests.table :=
        (List.nodup_cons.mpr ⟨stays, distinct⟩).subperm fun q inList => by
          rcases List.mem_cons.mp inList with rfl | inGone
          · exact here
          · exact sub q inGone
      have counted := within.countP_le fun q => q.profile == r.profile
      rw [List.countP_cons_of_pos (by simp)] at counted
      rw [okProfile.counted]
      exact counted
    rw [profileWithout, held, Option.bind_some, referencesFallen, if_neg fun now => by omega,
      Option.map_some] at entry
    simp only [State.stepCount, entry, held]

include ok

/-- The table with one request advanced under its name. -/
theorem table_advanced {gone : List Request} {r q : Request} (here : r ∈ s.requests.table) (isAdvanced : q = advanced s c r) :
    ((tableWithout s gone).map (advancedBy s c pairs)).map (fun x => if x.named r.owner r.tag then q else x) =
      (tableWithout s gone).map (advancedBy s c (pairs ++ [{ host := r.owner, tag := r.tag }])) := by
  subst isAdvanced
  rw [List.map_map]
  refine List.map_congr_left fun x inRest => ?_
  have listed : x ∈ s.requests.table := List.mem_of_mem_filter inRest
  have names := advancedBy_named s c pairs x
  simp only [Function.comp]
  by_cases same : x.owner = r.owner ∧ x.tag = r.tag
  · have isR := named_unique ok listed here same.1 same.2
    subst isR
    rw [if_pos (by rw [named_iff, names.1, names.2]; exact ⟨rfl, rfl⟩), advancedBy_last]
  · rw [if_neg (by rw [named_iff, names.1, names.2]; exact same), advancedBy_other s c same]

/-- The table without a request that leaves under its name. -/
theorem table_finished {gone : List Request} {r : Request} (here : r ∈ s.requests.table) :
    ((tableWithout s gone).map (advancedBy s c pairs)).filter (fun q => !q.named r.owner r.tag) =
      (tableWithout s (gone ++ [r])).map (advancedBy s c (pairs ++ [{ host := r.owner, tag := r.tag }])) := by
  rw [List.filter_map, ← tableWithout_append ok here]
  have named : (fun q : Request => !q.named r.owner r.tag) ∘ advancedBy s c pairs =
      fun q => !q.named r.owner r.tag := funext fun q => by
    obtain ⟨owner, name⟩ := advancedBy_named s c pairs q
    simp only [Function.comp, Request.named, owner, name]
  rw [named]
  refine List.map_congr_left fun x inRest => (advancedBy_other s c fun same => ?_).symm
  have other := (List.mem_filter.mp inRest).2
  rw [Bool.not_eq_true', ← Bool.not_eq_true, named_iff] at other
  exact other same

theorem pickedBy_sub {test : Request → Bool} :
    ∀ r ∈ pickedBy s test pairs, r ∈ s.requests.table := fun _ here => ((mem_pickedBy ok).mp here).1

theorem pickedBy_nodup {test : Request → Bool} (distinct : pairs.Nodup) :
    (pickedBy s test pairs).Nodup := by
  refine distinct.filterMap fun p q r inP inQ => ?_
  obtain ⟨-, owner, name, -⟩ := (find?_named_iff ok).mp inP
  obtain ⟨-, owner', name', -⟩ := (find?_named_iff ok).mp inQ
  cases p
  cases q
  exact Subscriber.mk.injEq .. ▸ ⟨owner.symm.trans owner', name.symm.trans name'⟩

/-- A request that a pair names, found in the state as it stands. -/
theorem Counted.request (before : Counted s c pairs acc) {r : Request} (found : s.request r.owner r.tag = some r)
    (fresh : { host := r.owner, tag := r.tag } ∉ pairs) : acc.1.request r.owner r.tag = some r := by
  have stays : r ∉ pickedBy s (finishing s c) pairs := fun inPairs => fresh ((mem_pickedBy ok).mp inPairs).2.1
  have inRest : r ∈ tableWithout s (pickedBy s (finishing s c) pairs) :=
    List.mem_filter.mpr ⟨request_mem found, by simpa using stays⟩
  have okRest : RequestsOk (s.setTable (tableWithout s (pickedBy s (finishing s c) pairs))) :=
    requestsOk_sublist ok List.filter_sublist
  rw [request_map (s := s.setTable (tableWithout s (pickedBy s (finishing s c) pairs))) before.table
    (advancedBy_named s c pairs), request_of_mem okRest inRest, Option.map_some, advancedBy_fresh s c fresh]

omit ok in
/-- A pair that names no live request, or one that the frame does not count for. -/
theorem Counted.unchanged (before : Counted s c pairs acc) {p : Subscriber}
    (gone : pickedBy s (finishing s c) (pairs ++ [p]) = pickedBy s (finishing s c) pairs)
    (same : ∀ q ∈ s.requests.table, q.owner = p.host → q.tag = p.tag → advanced s c q = q) :
    Counted s c (pairs ++ [p]) acc := by
  refine ⟨gone ▸ before.left, ?_, gone ▸ before.active⟩
  rw [gone, before.table]
  refine List.map_congr_left fun q inRest => ?_
  by_cases named : q.owner = p.host ∧ q.tag = p.tag
  · have stands := same q (List.mem_of_mem_filter inRest) named.1 named.2
    simp only [advancedBy, stands, ite_self]
  · obtain ⟨h, tag⟩ := p
    simp [advancedBy, named]

/-- One more pair of a subscriber list has been gone through. -/
theorem Counted.count (okProfiles : ProfilesOk s) (before : Counted s c pairs acc) (distinct : pairs.Nodup)
    {p : Subscriber} (fresh : p ∉ pairs) : Counted s c (pairs ++ [p]) (countOccasion c acc p) := by
  obtain ⟨h, tag⟩ := p
  cases found : s.request h tag with
  | none =>
    have unnamed := request_eq_none.mp found
    have none : acc.1.request h tag = none := by
      rw [request_eq_none, before.table]
      intro q inRest
      obtain ⟨x, inTable, rfl⟩ := List.mem_map.mp inRest
      rw [(advancedBy_named s c pairs x).1, (advancedBy_named s c pairs x).2]
      exact unnamed x (List.mem_of_mem_filter inTable)
    have stays : countOccasion c acc { host := h, tag := tag } = acc := by rw [countOccasion, none]
    rw [stays]
    exact before.unchanged (pickedBy_append_none (p := { host := h, tag := tag }) found)
      fun q here owner name => absurd ⟨owner, name⟩ (unnamed q here)
  | some r =>
    have here := request_mem found
    obtain ⟨owner, name⟩ := request_named found
    subst owner name
    have stays : r ∉ pickedBy s (finishing s c) pairs := fun inPairs => fresh ((mem_pickedBy ok).mp inPairs).2.1
    have found' := before.request ok found fresh
    have last := stepCount_left okProfiles before.left (pickedBy_sub ok) (pickedBy_nodup ok distinct) here stays
    have picked := pickedBy_append_found ok (test := finishing s c) (pairs := pairs)
      (p := { host := r.owner, tag := r.tag }) found
    have only : ∀ q ∈ s.requests.table, q.owner = r.owner → q.tag = r.tag → q = r :=
      fun q inTable owner name => named_unique ok inTable here owner name
    cases kind : r.kind with
    | stream =>
      have finishes : finishing s c r = false := by simp [finishing, kind]
      rw [finishes, if_neg Bool.false_ne_true, List.append_nil] at picked
      have runs : countOccasion c acc { host := r.owner, tag := r.tag } = acc := by
        simp only [countOccasion, found', kind]
      rw [runs]
      exact before.unchanged picked fun q inTable owner name => by
        rw [only q inTable owner name, advanced, kind]
    | burst count done =>
      by_cases atLast : c.stepIndex + 1 = s.stepCount r.profile
      · by_cases reached : done + 1 = count
        · have finishes : finishing s c r = true := by simp [finishing, kind, atLastStep, atLast, reached]
          rw [finishes, if_pos rfl] at picked
          have runs : countOccasion c acc { host := r.owner, tag := r.tag } =
              (tellLeft r { freeEntry r acc.1 with ports := told (doneNotice r) acc.1 }, acc.2 || r.isActive) := by
            simp only [countOccasion, found', kind, last, atLast, reached, if_true, finished_eq]
          have table : (freeEntry r acc.1).requests.table =
              (tableWithout s (pickedBy s (finishing s c) pairs ++ [r])).map
                (advancedBy s c (pairs ++ [{ host := r.owner, tag := r.tag }])) := by
            rw [freeEntry_table, before.table, table_finished ok here]
          rw [runs]
          refine ⟨picked ▸ before.left.leave (leaves_of_users fun id => users_advanced table id) here stays, ?_, ?_⟩
          · rw [picked, tellLeft_requests]
            exact table
          · rw [picked, List.any_append, ← before.active]
            simp
        · have finishes : finishing s c r = false := by simp [finishing, kind, reached]
          rw [finishes, if_neg Bool.false_ne_true, List.append_nil] at picked
          have runs : countOccasion c acc { host := r.owner, tag := r.tag } =
              (acc.1.updateRequest r.owner r.tag fun q => { q with kind := .burst count (done + 1) }, acc.2) := by
            simp only [countOccasion, found', kind, last, atLast, reached, if_true, if_false]
          have table : (acc.1.updateRequest r.owner r.tag fun q =>
                { q with kind := .burst count (done + 1) }).requests.table =
              (tableWithout s (pickedBy s (finishing s c) pairs)).map
                (advancedBy s c (pairs ++ [{ host := r.owner, tag := r.tag }])) := by
            have isAdvanced : { r with kind := .burst count (done + 1) } = advanced s c r := by
              simp [advanced, kind, atLastStep, atLast]
            rw [← table_advanced ok here isAdvanced, ← before.table]
            refine List.map_congr_left fun q inTable => ?_
            rw [before.table] at inTable
            obtain ⟨x, inRest, rfl⟩ := List.mem_map.mp inTable
            split
            · rename_i named
              rw [named_iff, (advancedBy_named s c pairs x).1, (advancedBy_named s c pairs x).2] at named
              rw [only x (List.mem_of_mem_filter inRest) named.1 named.2, advancedBy_fresh s c fresh]
            · rfl
          rw [runs]
          refine ⟨picked ▸ before.left.setTable fun id => ?_, picked ▸ table, picked ▸ before.active⟩
          exact users_advanced table id
      · have notLast : atLastStep s c r = false := by simp [atLastStep, atLast]
        have finishes : finishing s c r = false := by simp [finishing, notLast]
        rw [finishes, if_neg Bool.false_ne_true, List.append_nil] at picked
        have runs : countOccasion c acc { host := r.owner, tag := r.tag } = acc := by
          simp only [countOccasion, found', kind, last, atLast, if_false]
        rw [runs]
        exact before.unchanged picked fun q inTable owner name => by
          rw [only q inTable owner name, advanced, kind]
          simp only [notLast, Bool.false_eq_true, if_false]

theorem foldl_countOccasion (okProfiles : ProfilesOk s) (rest : List Subscriber) (before : Counted s c pairs acc)
    (distinct : (pairs ++ rest).Nodup) : Counted s c (pairs ++ rest) (rest.foldl (countOccasion c) acc) := by
  induction rest generalizing pairs acc with
  | nil => rwa [List.append_nil]
  | cons p rest ih =>
    have apart := List.nodup_append.mp distinct
    have fresh : p ∉ pairs := fun inPairs => apart.2.2 p inPairs p (List.mem_cons_self ..) rfl
    rw [List.append_cons] at distinct ⊢
    exact ih (before.count ok okProfiles apart.1 fresh) distinct

end

/-! ### The close's third step as a whole -/

/-- Settles O50: the occasions pair by pair, then the one trigger. -/
theorem occasionsCompleteBursts : Obligations.OccasionsCompleteBursts := by
  intro c s ok okProfiles okCalendar distinct
  refine ⟨fun reason => rfl, ?_⟩
  intro counted finishes t leavers done
  have result := foldl_countOccasion (c := c) ok okProfiles c.subscribers Counted.nil distinct
  rw [List.nil_append] at result
  generalize on : c.subscribers.foldl (countOccasion c) (s, false) = acc at result
  obtain ⟨left, table, flag⟩ := result
  have closed : t = rebuildIfWaiting acc.2 acc.1 := by
    rw [← on]
    rfl
  have finishes' : ∀ r, finishes r =
      (c.subscribers.contains { host := r.owner, tag := r.tag } && finishing s c r) := fun r => by
    cases kind : r.kind <;> simp only [finishes, counted, finishing, atLastStep, kind, Bool.and_assoc]
  have gone : pickedBy s (finishing s c) c.subscribers = leavers := by
    refine List.filterMap_congr fun p inPairs => congrArg (s.requests.table.find? ·) (funext fun r => ?_)
    rw [finishes', Bool.eq_iff_iff]
    simp only [Bool.and_eq_true, beq_iff_eq, List.contains_iff_mem]
    constructor
    · rintro ⟨⟨owner, name⟩, picked⟩
      exact ⟨⟨owner, name⟩, by rw [owner, name]; exact inPairs, picked⟩
    · rintro ⟨pair, _, picked⟩
      exact ⟨pair, picked⟩
  have inLeavers : ∀ r, r ∈ leavers ↔ r ∈ s.requests.table ∧ finishes r = true := fun r => by
    rw [← gone, mem_pickedBy ok, finishes']
    simp
  have perm : leavers.Perm (s.requests.table.filter finishes) := by
    refine (List.perm_ext_iff_of_nodup (gone ▸ pickedBy_nodup ok distinct) ((table_nodup ok).filter _)).mpr fun r => ?_
    rw [inLeavers, List.mem_filter]
  rw [gone] at left table flag
  have anyLeft : ∀ test : Request → Bool,
      leavers.any test = s.requests.table.any fun r => finishes r && test r := fun test => by
    rw [perm.any_eq, List.any_filter]
  rw [left.rebuild, flag, anyLeft] at closed
  have profile : ∀ id, t.profile id = acc.1.profile id := fun id => by rw [closed]; rfl
  have requests : t.requests = acc.1.requests := by rw [closed]
  have entries : acc.1.requests.table = (s.requests.table.filter fun r => !finishes r).map fun r =>
      match r.kind with
      | .stream => r
      | .burst count done => if counted r then { r with kind := .burst count (done + 1) } else r := by
    have rest : tableWithout s leavers = s.requests.table.filter fun r => !finishes r :=
      List.filter_congr fun r here => by
        rw [Bool.eq_iff_iff]
        simp [inLeavers, here]
    rw [table, rest]
    refine List.map_congr_left fun r _ => ?_
    unfold advancedBy advanced
    cases kind : r.kind with
    | stream => simp
    | burst count done =>
      have counts : counted r = (c.subscribers.contains { host := r.owner, tag := r.tag } && atLastStep s c r) := rfl
      cases listed : c.subscribers.contains { host := r.owner, tag := r.tag } with
      | true => simp only [counts, listed, Bool.true_and, if_true]
      | false => simp only [counts, listed, Bool.false_and, Bool.false_eq_true, if_false]
  have touches : TouchesTables s t := by
    rw [closed]
    exact left.touches.trans rfl
  refine ⟨requests.trans (requests_ext entries left.counter), ?_, ?_, ?_, fun id p held => ?_, fun id absent => ?_, ?_,
    ?_, ?_, ?_, ?_, ?_, ?_, ?_, ?_, ?_⟩
  · rw [closed]
    change acc.1.calendar.active = _
    rw [left.calendar]
    refine (withoutLeavers_eq leavers ((slotsOk_iff _).mp okCalendar.active).2).trans
      (List.map_congr_left fun slot _ => congrArg (dropPairs · slot) (funext fun p => ?_))
    rw [namesActive, anyLeft]
    exact congrArg (s.requests.table.any ·) (funext fun r => by
      rw [← Bool.and_assoc, Bool.and_comm (finishes r)])
  · rw [closed]
    change acc.1.calendar.generation = _
    rw [left.calendar]
  · rw [triggered_of_tables (s := acc.1) requests (by rw [closed]), requests, closed]
  · intro n
    have okProfile := (profilesOk_iff.mp okProfiles).1 id p held
    have count : fallenBy true leavers id = n := by
      rw [fallenBy, if_pos rfl, perm.countP_eq, List.countP_filter]
    have within : n ≤ naming s id := List.countP_mono_left fun r _ both => by
      rw [Bool.and_eq_true] at both
      exact both.1
    rw [profile, left.profile, profileWithout_counted okProfile.counted (fun orphaned => (okProfile.orphan orphaned).2)
      held count within, requests, left.modeLeft fun _ => Iff.rfl]
  · rw [profile, left.profile, profileWithout, absent, Option.bind_none]
  · have ports : t.ports = acc.1.ports := by rw [closed]
    exact ports.trans left.ports
  all_goals rw [touches]

end Sys2Proof.Proofs

/-! The detach of a host's profiles (R38, R149). -/

namespace Sys2Proof.Proofs

open Sys2Proof.Machine Sys2Proof.Safety

/-! ### One profile of a detached host (R38) -/

/-- The entry of a profile once its owner has been detached. -/
def detachedProfile (h : HostId) (p : Profile) : Option Profile :=
  if p.life ≠ .live h then some p
  else if p.sharing = .shared ∧ p.references ≠ 0 then some { p with life := .orphaned, mode := .manual }
  else none

/-- The profile becomes ORPHANED when the host is detached. -/
def orphans (h : HostId) (s : State) (id : Fin 16) : Bool :=
  match s.profile id with
  | some p => p.life == .live h && p.sharing == .shared && p.references != 0
  | none => false

/-- The host has a live request on the profile. -/
def usesProfile (s : State) (id : Fin 16) (g : HostId) : Bool :=
  s.requests.table.any fun r => r.owner == g && r.profile == id

/-- The notice that a profile has become ORPHANED (R38). -/
def orphanNotice (h : HostId) (id : Fin 16) : Notice :=
  { kind := .profileOrphaned, subject := id.val, detail := h.number }

/-- Notices do not change which hosts use the profile. -/
theorem foldl_orphanNotice (h : HostId) (id : Fin 16) (hosts : List HostId) (s : State) (tells : HostId → Bool)
    (same : ∀ g, usesProfile s id g = tells g) :
    hosts.foldl (fun t g => if t.requests.table.any (fun r => r.owner == g && r.profile == id) then
        postNotice g (orphanNotice h id) t else t) s =
      hosts.foldl (fun t g => if tells g then postNotice g (orphanNotice h id) t else t) s := by
  induction hosts generalizing s with
  | nil => rfl
  | cons g hosts ih =>
    have here : s.requests.table.any (fun r => r.owner == g && r.profile == id) = tells g := same g
    rw [List.foldl_cons, List.foldl_cons, here]
    refine ih _ fun g' => ?_
    rw [← same g']
    split
    · rw [postNotice_eq]
      rfl
    · rfl

theorem orphanProfile_eq (h : HostId) (id : Fin 16) (p : Profile) (s : State) :
    orphanProfile h id p s =
      { s.setProfile id (some { p with life := .orphaned, mode := .manual }) with
        ports := (orphanProfile h id p s).ports } ∧
    ∀ g, (orphanProfile h id p s).port g =
      if usesProfile s id g = true then posted (orphanNotice h id) (s.port g) else s.port g := by
  have tells : orphanProfile h id p s =
      allHosts.foldl (fun t g => if usesProfile s id g then postNotice g (orphanNotice h id) t else t)
        (s.setProfile id (some { p with life := .orphaned, mode := .manual })) :=
    foldl_orphanNotice h id allHosts _ _ fun _ => rfl
  rw [tells]
  refine ⟨foldl_post_touches .., fun g => ?_⟩
  rw [foldl_post_port _ _ _ (by decide)]
  simp [mem_allHosts, State.port]

/-- One step of the detach of profiles: the entry, and who is told. -/
theorem detachProfile_eq (h : HostId) (s : State) (id : Fin 16) :
    (∃ ports, detachProfile h s id =
      { s with ports := ports, profiles := s.profiles.set id ((s.profile id).bind (detachedProfile h)) }) ∧
    ∀ g, (detachProfile h s id).port g =
      if (orphans h s id && usesProfile s id g) = true then posted (orphanNotice h id) (s.port g) else s.port g := by
  cases held : s.profile id with
  | none =>
    have same : detachProfile h s id = s := by rw [detachProfile, held]
    have entry : s.profiles.set id ((none : Option Profile).bind (detachedProfile h)) = s.profiles := by
      rw [Option.bind_none, ← held]
      exact Vector.set_getElem_self _
    rw [same, entry, orphans, held]
    exact ⟨⟨_, rfl⟩, fun g => by simp⟩
  | some p =>
    rw [Option.bind_some]
    by_cases owned : p.life = .live h
    · by_cases kept : p.sharing = .shared ∧ p.references ≠ 0
      · have runs : detachProfile h s id = orphanProfile h id p s := by
          simp only [detachProfile, held]
          rw [if_pos owned, if_pos kept]
        have becomes : orphans h s id = true := by simp [orphans, held, owned, kept.1, kept.2]
        obtain ⟨touches, port⟩ := orphanProfile_eq h id p s
        rw [runs, becomes, detachedProfile, if_neg (not_not.mpr owned), if_pos kept]
        exact ⟨⟨_, touches⟩, fun g => by rw [port g, Bool.true_and]⟩
      · have runs : detachProfile h s id = s.setProfile id none := by
          simp only [detachProfile, held]
          rw [if_pos owned, if_neg kept]
        have freed : orphans h s id = false := by simpa [orphans, held, owned] using kept
        rw [runs, freed, detachedProfile, if_neg (not_not.mpr owned), if_neg kept]
        exact ⟨⟨_, rfl⟩, fun g => by simp [State.port]⟩
    · have runs : detachProfile h s id = s := by
        simp only [detachProfile, held]
        rw [if_neg owned]
      have stays : orphans h s id = false := by simp [orphans, held, owned]
      have entry : s.profiles.set id (some p) = s.profiles := by
        rw [← held]
        exact Vector.set_getElem_self _
      rw [runs, stays, detachedProfile, if_pos owned, entry]
      exact ⟨⟨_, rfl⟩, fun g => by simp⟩

/-! ### All the profiles of a detached host -/

/-- A port after notices of its own, one after another. -/
theorem posted_posted (n : Notice) (rest : List Notice) (p : Port) :
    { posted n p with
      notices := if (posted n p).attached then rest.foldl joinNotice (posted n p).notices else (posted n p).notices } =
      { p with notices := if p.attached then (n :: rest).foldl joinNotice p.notices else p.notices } := by
  unfold posted
  cases attached : p.attached <;> simp [attached]

theorem foldl_detachProfile (h : HostId) (ids : List (Fin 16)) (distinct : ids.Nodup) (s : State) :
    (∃ ports profiles, ids.foldl (detachProfile h) s = { s with ports := ports, profiles := profiles }) ∧
    (∀ id, (ids.foldl (detachProfile h) s).profile id =
      if id ∈ ids then (s.profile id).bind (detachedProfile h) else s.profile id) ∧
    ∀ g, (ids.foldl (detachProfile h) s).port g =
      { s.port g with
        notices :=
          if (s.port g).attached then
            ((ids.filter fun id => orphans h s id && usesProfile s id g).map (orphanNotice h)).foldl joinNotice
              (s.port g).notices
          else (s.port g).notices } := by
  induction ids generalizing s with
  | nil => exact ⟨⟨_, _, rfl⟩, fun id => by simp, fun g => by simp⟩
  | cons id ids ih =>
    obtain ⟨notIn, distinct⟩ := List.nodup_cons.mp distinct
    obtain ⟨⟨ports, first⟩, port⟩ := detachProfile_eq h s id
    have profile : ∀ j, (detachProfile h s id).profile j =
        if j = id then (s.profile id).bind (detachedProfile h) else s.profile j := fun j => by
      rw [first]
      exact State.setProfile_profile s id j _
    obtain ⟨⟨_, _, rest⟩, entries, told'⟩ := ih distinct (detachProfile h s id)
    rw [List.foldl_cons]
    refine ⟨⟨_, _, by rw [rest, first]⟩, fun j => ?_, fun g => ?_⟩
    · rw [entries j, profile j]
      by_cases same : j = id
      · subst same
        simp [notIn]
      · simp [same]
    · have uses : ∀ j, usesProfile (detachProfile h s id) j g = usesProfile s j g := fun j => by rw [first]; rfl
      have others : (ids.filter fun j => orphans h (detachProfile h s id) j && usesProfile (detachProfile h s id) j g) =
          ids.filter fun j => orphans h s j && usesProfile s j g :=
        List.filter_congr fun j inRest => by
          have other : j ≠ id := fun same => notIn (same ▸ inRest)
          rw [uses, orphans, orphans, profile j, if_neg other]
      rw [told' g, others, port g]
      by_cases tells : (orphans h s id && usesProfile s id g) = true
      · rw [if_pos tells, List.filter_cons_of_pos (p := fun j => orphans h s j && usesProfile s j g) tells, List.map_cons]
        exact posted_posted _ _ _
      · rw [if_neg tells, List.filter_cons_of_neg (p := fun j => orphans h s j && usesProfile s j g) tells]

/-- Settles O12: the entries one after another, each telling the users of its own. -/
theorem detachOrphansOrFreesTheHostsProfiles : Obligations.DetachOrphansOrFreesTheHostsProfiles := by
  intro h d s under next s1 orphaned
  have runs : exec (.detachProfiles h) s = .next (allProfileIds.foldl (detachProfile h) s1) :=
    congrArg Host.Outcome.next
      (next ▸ detachStep_due under .records fun t => allProfileIds.foldl (detachProfile h) t)
  obtain ⟨⟨_, _, touches⟩, entries, told'⟩ := foldl_detachProfile h allProfileIds (List.nodup_finRange 16) s1
  have same : ∀ id, orphans h s1 id = orphaned id := fun id => by
    simp only [orphans, orphaned]
    cases held : s.profile id <;> simp only [s1, State.setPort_profile, held]
  refine ⟨_, runs, fun id => ?_, fun g => ?_, ?_⟩
  · rw [entries id, if_pos (mem_allProfileIds id)]
    change (s.profile id).bind _ = _
    cases held : s.profile id with
    | none => rfl
    | some p =>
      have picks : orphaned id = true ↔ p.life = .live h ∧ p.sharing = .shared ∧ p.references ≠ 0 := by
        simp [orphaned, held, and_assoc]
      rw [Option.bind_some, detachedProfile]
      dsimp only
      by_cases owned : p.life = .live h
      · rw [if_neg (not_not.mpr owned), if_neg (not_not.mpr owned)]
        exact if_congr (by rw [picks]; exact ⟨fun kept => ⟨owned, kept⟩, And.right⟩) rfl rfl
      · rw [if_pos owned, if_pos owned]
  · rw [told' g, List.foldl_map]
    simp only [same]
    rfl
  · rw [touches]
    exact ⟨rfl, rfl, rfl, rfl, rfl, rfl, rfl, rfl⟩

end Sys2Proof.Proofs

/-! The swap (R15, R55, R56, R58, R100). -/

namespace Sys2Proof.Proofs

open Sys2Proof.Machine Sys2Proof.Safety

/-! ### The candidates in the order of the swap (R15) -/

/-- The strict order of the swap, in which no two requests stand level. -/
def SwappedBefore (a b : Request) : Prop :=
  a.priority < b.priority ∨ (a.priority = b.priority ∧ a.sequence < b.sequence)

theorem candidatesInOrder_unique {s : State} {order : List Request}
    (perm : order.Perm (s.requests.table.filter Request.isCandidate)) (strict : order.Pairwise SwappedBefore) :
    candidatesInOrder s = order := by
  have total : Std.Total fun a b : Request => orderedBefore a.priority a.sequence b.priority b.sequence :=
    ⟨fun a b => by simp only [orderedBefore]; bv_omega⟩
  have trans : IsTrans Request fun a b => orderedBefore a.priority a.sequence b.priority b.sequence :=
    ⟨fun a b c => by simp only [orderedBefore]; bv_omega⟩
  have sorted : (candidatesInOrder s).Pairwise fun a b =>
      orderedBefore a.priority a.sequence b.priority b.sequence := List.pairwise_insertionSort _ _
  have perm' : order.Perm (candidatesInOrder s) := perm.trans (List.perm_insertionSort ..).symm
  have apart : order.Pairwise fun a b => SwappedBefore a b ∨ SwappedBefore b a := strict.imp Or.inl
  have symm : Std.Symm fun a b => SwappedBefore a b ∨ SwappedBefore b a := ⟨fun _ _ => Or.symm⟩
  refine (perm'.eq_of_pairwise (fun a b inA inB ab ba => ?_) (strict.imp fun {a b} before => ?_) sorted).symm
  · by_contra ne
    rcases apart.forall inA (perm'.mem_iff.mpr inB) ne with before | before <;>
    · unfold SwappedBefore at before
      unfold orderedBefore at ab ba
      bv_omega
  · unfold SwappedBefore at before
    unfold orderedBefore
    bv_omega

/-- The notices of a run of steps, the first having posted its own. -/
theorem told_flatMap {α : Type} {notices : α → List (HostId × Notice)} {a : α} {l : List α} {s t : State}
    (first : t.ports = told (notices a) s) : told (l.flatMap notices) t = told ((a :: l).flatMap notices) s := by
  rw [List.flatMap_cons, told_append]
  exact told_congr (t := { s with ports := told (notices a) s }) first _

/-! ### The states of the candidates (R15, Table 1-5) -/

/-- A request that the swap has reached. -/
def swappedTo (placed : List Placed) (r : Request) : Request := { r with state := swapState (placedPhase placed r) }

/-- The entry of a request once the candidates given have their states. -/
def swappedBy (placed : List Placed) (done : List Request) (r : Request) : Request :=
  if done.contains r then swappedTo placed r else r

/-- The notice of Table 1-5 for a candidate. -/
def swapNotices (placed : List Placed) (r : Request) : List (HostId × Notice) :=
  ((swapNotice r.state (placedPhase placed r)).map fun kind =>
    (r.owner, { kind := kind, subject := r.tag, detail := 0 })).toList

theorem setSwapState_eq (placed : List Placed) (s : State) (r : Request) :
    setSwapState placed s r =
      { s with
        ports := told (swapNotices placed r) s
        requests :=
          { s.requests with
            table := s.requests.table.map fun q =>
              if q.named r.owner r.tag then { q with state := swapState (placedPhase placed r) } else q } } := by
  cases tells : swapNotice r.state (placedPhase placed r) with
  | none =>
    simp only [setSwapState, swapNotices, tells]
    rfl
  | some kind =>
    simp only [setSwapState, swapNotices, tells, postNotice_eq, Option.map_some, Option.toList_some, told_cons, told_nil]
    rfl

theorem foldl_setSwapState {s t : State} (ok : RequestsOk s) (placed : List Placed) (l : List Request)
    {done : List Request} (table : t.requests.table = s.requests.table.map (swappedBy placed done))
    (here : ∀ r ∈ l, r ∈ s.requests.table) (distinct : (done ++ l).Nodup) :
    l.foldl (setSwapState placed) t =
      { t with
        ports := told (l.flatMap (swapNotices placed)) t
        requests := { t.requests with table := s.requests.table.map (swappedBy placed (done ++ l)) } } := by
  induction l generalizing t done with
  | nil =>
    rw [List.append_nil, ← table]
    rfl
  | cons r l ih =>
    have inTable : r ∈ s.requests.table := here r (List.mem_cons_self ..)
    have stays : r ∉ done := fun inDone =>
      (List.nodup_append.mp distinct).2.2 r inDone r (List.mem_cons_self ..) rfl
    have next : (setSwapState placed t r).requests.table = s.requests.table.map (swappedBy placed (done ++ [r])) := by
      rw [setSwapState_eq, table, List.map_map]
      refine List.map_congr_left fun q listed => ?_
      have names : (swappedBy placed done q).named r.owner r.tag = q.named r.owner r.tag := by
        unfold swappedBy
        split <;> rfl
      simp only [Function.comp, names]
      by_cases same : q = r
      · subst same
        simp [named_self, swappedBy, stays, swappedTo]
      · have other : ¬q.named r.owner r.tag = true := fun named => by
          rw [named_iff] at named
          exact same (named_unique ok listed inTable named.1 named.2)
        simp [other, swappedBy, same]
    rw [List.append_cons] at distinct ⊢
    have posted' : told (l.flatMap (swapNotices placed)) (setSwapState placed t r) =
        told ((r :: l).flatMap (swapNotices placed)) t := told_flatMap (by rw [setSwapState_eq])
    rw [List.foldl_cons, ih next (fun q inRest => here q (List.mem_cons_of_mem _ inRest)) distinct, posted',
      setSwapState_eq]

/-! ### The tunes that end with the swap (R100) -/

/-- A profile at a swap: a tune without an ACTIVE user ends. -/
def abortedProfile (s : State) (id : Fin 16) (p : Profile) : Profile :=
  match p.mode with
  | .tuning _ => if s.hasActiveUser id then p else { p with mode := .manual }
  | _ => p

/-- The notice of a tune without an ACTIVE user. -/
def tuneAborts (s : State) (id : Fin 16) : List (HostId × Notice) :=
  match s.profile id with
  | none => []
  | some p =>
    match p.mode, p.life with
    | .tuning loop, .live owner =>
      if s.hasActiveUser id then []
      else [(owner, { kind := .tuneAborted, subject := id.val, detail := loop.tuneFrames })]
    | _, _ => []

theorem setProfile_of_held {s : State} {id : Fin 16} {p : Option Profile} (held : s.profile id = p) :
    s.profiles.set id p = s.profiles := by
  rw [← held]
  exact Vector.set_getElem_self _

theorem abortTune_eq (id : Fin 16) (s : State) :
    abortTune id s =
      { s with
        ports := told (tuneAborts s id) s
        profiles := s.profiles.set id ((s.profile id).map (abortedProfile s id)) } := by
  cases held : s.profile id with
  | none =>
    simp only [abortTune, tuneAborts, held, Option.map_none, setProfile_of_held held]
    rfl
  | some p =>
    rw [Option.map_some]
    cases mode : p.mode with
    | tuning loop =>
      cases used : s.hasActiveUser id with
      | true =>
        have none : tuneAborts s id = [] := by
          simp only [tuneAborts, held, mode, used]
          cases p.life <;> rfl
        have kept : abortedProfile s id p = p := by simp only [abortedProfile, mode, used, if_true]
        rw [abortTune_used used, none, kept, setProfile_of_held held]
        rfl
      | false =>
        have ended : abortedProfile s id p = { p with mode := .manual } := by
          simp only [abortedProfile, mode, used, Bool.false_eq_true, if_false]
        rw [ended]
        cases life : p.life with
        | live o =>
          rw [abortTune_live held mode used life, postNotice_eq]
          simp only [tuneAborts, held, mode, life, used, Bool.false_eq_true, if_false, told_cons, told_nil,
            postNotice_eq]
          rfl
        | orphaned =>
          rw [abortTune_orphaned held mode used life]
          simp only [tuneAborts, held, mode, life]
          rfl
    | manual =>
      have kept : abortedProfile s id p = p := by simp only [abortedProfile, mode]
      simp only [abortTune, tuneAborts, held, mode, kept, setProfile_of_held held]
      rfl
    | auto loop =>
      have kept : abortedProfile s id p = p := by simp only [abortedProfile, mode]
      simp only [abortTune, tuneAborts, held, mode, kept, setProfile_of_held held]
      rfl

theorem foldl_abortTune (ids : List (Fin 16)) (distinct : ids.Nodup) (s : State) :
    ∃ profiles, ids.foldl (fun t id => abortTune id t) s =
        { s with ports := told (ids.flatMap (tuneAborts s)) s, profiles := profiles } ∧
      ∀ id, profiles[id] = if id ∈ ids then (s.profile id).map (abortedProfile s id) else s.profile id := by
  induction ids generalizing s with
  | nil => exact ⟨_, rfl, fun id => by simp [State.profile]⟩
  | cons id ids ih =>
    obtain ⟨notIn, distinct⟩ := List.nodup_cons.mp distinct
    obtain ⟨profiles, rest, entries⟩ := ih distinct (abortTune id s)
    have profile : ∀ j, (abortTune id s).profile j =
        if j = id then (s.profile id).map (abortedProfile s id) else s.profile j := fun j => by
      rw [abortTune_eq]
      exact State.setProfile_profile s id j _
    have users : ∀ j, (abortTune id s).hasActiveUser j = s.hasActiveUser j := fun j => by
      rw [abortTune_eq]
      rfl
    have others : ids.flatMap (tuneAborts (abortTune id s)) = ids.flatMap (tuneAborts s) :=
      List.flatMap_congr fun j inRest => by
        have other : j ≠ id := fun same => notIn (same ▸ inRest)
        simp only [tuneAborts, profile, other, users, if_false]
    refine ⟨profiles, ?_, fun j => ?_⟩
    · have posted' : told (ids.flatMap (tuneAborts s)) (abortTune id s) =
          told ((id :: ids).flatMap (tuneAborts s)) s := told_flatMap (by rw [abortTune_eq])
      rw [List.foldl_cons, rest, others, posted', abortTune_eq]
    · rw [entries j, profile j]
      by_cases same : j = id
      · subst same
        simp [notIn]
      · simp only [same, if_false, List.mem_cons, false_or]
        have here : abortedProfile (abortTune id s) j = abortedProfile s j := funext fun p => by
          simp only [abortedProfile, users]
        rw [here]

/-! ### The swap as a whole -/

/-- The shadow without the pairs of requests that are no longer candidates (R56). -/
theorem cleaned_eq {s : State} (ok : RequestsOk s) (slot : Slot) :
    slot.cleaned s =
      dropPairs (fun p => !s.requests.table.any fun r => r.named p.host p.tag && r.state != .suspended) slot := by
  have names : ∀ h tag, namesCandidate s h tag =
      s.requests.table.any fun r => r.named h tag && r.state != .suspended := fun h tag => by
    unfold namesCandidate
    cases found : s.request h tag with
    | none =>
      refine (List.any_eq_false.mpr fun r here => ?_).symm
      have other := request_eq_none.mp found r here
      rw [Bool.and_eq_true, named_iff]
      exact fun both => other both.1
    | some r =>
      obtain ⟨owner, name⟩ := request_named found
      subst owner name
      rw [Bool.eq_iff_iff, List.any_eq_true]
      constructor
      · exact fun candidate => ⟨r, request_mem found, by rw [named_self, Bool.true_and]; exact candidate⟩
      · rintro ⟨q, here, both⟩
        rw [Bool.and_eq_true, named_iff] at both
        rw [named_unique ok here (request_mem found) both.1.1 both.1.2] at both
        exact both.2
  cases slot with
  | idle => rfl
  | assigned profile step subscribers =>
    have same : (subscribers.filter fun p => namesCandidate s p.host p.tag) =
        subscribers.filter fun p =>
          !!(s.requests.table.any fun r => r.named p.host p.tag && r.state != .suspended) :=
      List.filter_congr fun p _ => by rw [Bool.not_not, names]
    rw [Slot.cleaned, dropPairs, ← same]
    split
    · rename_i empty
      rw [if_pos empty]
    · rename_i some
      rw [if_neg some]

theorem toPort_append (g : HostId) (a b : List (HostId × Notice)) : toPort g (a ++ b) = toPort g a ++ toPort g b := by
  simp [toPort]

/-- The notices of one host among those of requests, each for its owner. -/
theorem toPort_swapNotices (placed : List Placed) (g : HostId) (l : List Request) :
    toPort g (l.flatMap (swapNotices placed)) =
      (l.filter fun r => r.owner == g).filterMap fun r =>
        (swapNotice r.state (placedPhase placed r)).map fun kind => { kind := kind, subject := r.tag, detail := 0 } := by
  induction l with
  | nil => rfl
  | cons r l ih =>
    rw [List.flatMap_cons, toPort_append, ih]
    cases tells : swapNotice r.state (placedPhase placed r) <;> by_cases owned : r.owner = g <;>
      simp [swapNotices, toPort, tells, owned]

/-- The notice of a tune that ends, to a given owner. -/
def tuneAbortedTo (s : State) (g : HostId) (id : Fin 16) : Option Notice :=
  match s.profile id with
  | some p =>
    match p.mode with
    | .tuning loop =>
      if p.life = .live g ∧ s.hasActiveUser id = false then
        some { kind := .tuneAborted, subject := id.val, detail := loop.tuneFrames }
      else none
    | _ => none
  | none => none

theorem toPort_tuneAborts (s : State) (g : HostId) (ids : List (Fin 16)) :
    toPort g (ids.flatMap (tuneAborts s)) = ids.filterMap (tuneAbortedTo s g) := by
  induction ids with
  | nil => rfl
  | cons id ids ih =>
    have first : toPort g (tuneAborts s id) = (tuneAbortedTo s g id).toList := by
      cases held : s.profile id with
      | none => simp only [tuneAborts, tuneAbortedTo, held]; rfl
      | some p =>
        cases mode : p.mode with
        | tuning loop =>
          cases life : p.life with
          | live o =>
            simp only [tuneAborts, tuneAbortedTo, held, mode, life]
            cases s.hasActiveUser id <;> by_cases owned : o = g <;> simp [toPort, owned]
          | orphaned =>
            simp only [tuneAborts, tuneAbortedTo, held, mode, life]
            simp [toPort]
        | manual => simp only [tuneAborts, tuneAbortedTo, held, mode]; rfl
        | auto loop => simp only [tuneAborts, tuneAbortedTo, held, mode]; rfl
    rw [List.flatMap_cons, toPort_append, ih, first]
    cases told' : tuneAbortedTo s g id <;> simp [told']

/-- The tables once every candidate has its state and no tune is yet ended. -/
def statesSet (placed : List Placed) (order : List Request) (s : State) : State :=
  { s with requests := { s.requests with table := s.requests.table.map (swappedBy placed order) } }

theorem setSwapStates_eq {s : State} {order : List Request} (ok : RequestsOk s)
    (perm : order.Perm (s.requests.table.filter Request.isCandidate)) (strict : order.Pairwise SwappedBefore)
    (placed : List Placed) :
    ∃ profiles, setSwapStates placed s =
        { statesSet placed order s with
          ports := told (order.flatMap (swapNotices placed) ++
            allProfileIds.flatMap (tuneAborts (statesSet placed order s))) s
          profiles := profiles } ∧
      ∀ id, profiles[id] = (s.profile id).map (abortedProfile (statesSet placed order s) id) := by
  have start : s.requests.table = s.requests.table.map (swappedBy placed []) :=
    ((List.map_congr_left fun r _ => by simp [swappedBy]).trans (List.map_id _)).symm
  have states := foldl_setSwapState ok placed order start (fun r here => List.mem_of_mem_filter (perm.mem_iff.mp here))
    (perm.nodup_iff.mpr ((table_nodup ok).filter _))
  obtain ⟨profiles, aborts, entries⟩ := foldl_abortTune allProfileIds (List.nodup_finRange 16)
    { statesSet placed order s with ports := told (order.flatMap (swapNotices placed)) s }
  refine ⟨profiles, ?_, fun id => ?_⟩
  · rw [setSwapStates, candidatesInOrder_unique perm strict, states]
    have later : told (allProfileIds.flatMap (tuneAborts (statesSet placed order s)))
          { statesSet placed order s with ports := told (order.flatMap (swapNotices placed)) s } =
        told (order.flatMap (swapNotices placed) ++
          allProfileIds.flatMap (tuneAborts (statesSet placed order s))) s := by
      rw [told_append]
      exact told_congr (by rfl) _
    rw [← later]
    exact aborts
  · refine ((entries id).trans (if_pos (List.mem_finRange id))).trans ?_
    rfl


theorem postedToAll_get (n : Notice) (s : State) (g : HostId) : (postedToAll n s).get g = posted n (s.port g) := by
  cases g <;> rfl

/-- The notice of the swap (R55). -/
def swapDone (sh : Shadow) (s : State) : Notice :=
  { kind := .swapped, subject := (s.calendar.generation + 1).toNat, detail := sh.slots.length }

/-- The calendar that a swap leaves (R55, R56). -/
def swappedCalendar (sh : Shadow) (s : State) : Calendar :=
  { active := sh.slots.map (Slot.cleaned s), builder := .idle, generation := s.calendar.generation + 1 }

theorem tuneAborts_congr {s t : State} (profiles : s.profiles = t.profiles)
    (table : s.requests.table = t.requests.table) : tuneAborts s = tuneAborts t := by
  have held : s.profile = t.profile := by unfold State.profile; rw [profiles]
  have used : s.hasActiveUser = t.hasActiveUser := by unfold State.hasActiveUser; rw [table]
  unfold tuneAborts
  rw [held, used]

theorem abortedProfile_congr {s t : State} (table : s.requests.table = t.requests.table) (id : Fin 16) :
    abortedProfile s id = abortedProfile t id := by
  have used : s.hasActiveUser = t.hasActiveUser := by unfold State.hasActiveUser; rw [table]
  unfold abortedProfile
  rw [used]

theorem swap_eq {s : State} {order : List Request} (ok : RequestsOk s)
    (perm : order.Perm (s.requests.table.filter Request.isCandidate)) (strict : order.Pairwise SwappedBefore)
    (sh : Shadow) :
    ∃ ports profiles, swap sh s =
        { statesSet sh.placed order s with
          ports := ports, profiles := profiles, calendar := swappedCalendar sh s } ∧
      (∀ id, profiles[id] = (s.profile id).map (abortedProfile (statesSet sh.placed order s) id)) ∧
      ∀ g, ports.get g = posted (swapDone sh s) ((told (order.flatMap (swapNotices sh.placed) ++
            allProfileIds.flatMap (tuneAborts (statesSet sh.placed order s))) s).get g) := by
  let s' := { s with
    calendar := { s.calendar with
      active := sh.slots.map (Slot.cleaned s), generation := s.calendar.generation + 1 } }
  obtain ⟨profiles, set, entries⟩ :=
    setSwapStates_eq (s := s') (order := order) (requestsOk_of_table ok rfl) perm strict sh.placed
  have aborts : tuneAborts (statesSet sh.placed order s') = tuneAborts (statesSet sh.placed order s) :=
    tuneAborts_congr rfl rfl
  have heard (notices : List (HostId × Notice)) : told notices s' = told notices s := told_congr (s := s') (t := s) rfl notices
  rw [aborts, heard] at set
  have kept (id : Fin 16) :
      abortedProfile (statesSet sh.placed order s') id = abortedProfile (statesSet sh.placed order s) id :=
    abortedProfile_congr rfl id
  simp only [kept] at entries
  generalize told (order.flatMap (swapNotices sh.placed) ++
    allProfileIds.flatMap (tuneAborts (statesSet sh.placed order s))) s = ports at set ⊢
  refine ⟨postedToAll (swapDone sh s) { s with ports := ports }, profiles, ?_, entries,
    postedToAll_get (swapDone sh s) _⟩
  rw [swap]
  simp only
  rw [set, postToAll_eq, List.length_map]
  rfl

/-- What the queue of one host has heard of a swap. -/
theorem told_get_posted (g : HostId) (heard : List (HostId × Notice)) (n : Notice) (s : State) :
    posted n ((told heard s).get g) =
      if (s.port g).attached then
        { s.port g with notices := (toPort g heard ++ [n]).foldl joinNotice (s.port g).notices }
      else s.port g := by
  rw [told_get]
  unfold posted
  cases attached : (s.port g).attached
  · rw [if_neg (by simp), if_neg (by simp), if_neg (by simp)]
  · simp [attached, List.foldl_append]

/-- The entry of a request at a swap, by its phase. -/
theorem swappedBy_eq {s : State} {order : List Request}
    (perm : order.Perm (s.requests.table.filter Request.isCandidate)) (placed : List Placed) {r : Request}
    (here : r ∈ s.requests.table) :
    swappedBy placed order r = if r.state = .suspended then r else swappedTo placed r := by
  have listed : r ∈ order ↔ r.state ≠ .suspended := by
    rw [perm.mem_iff, List.mem_filter]
    simp [here, Request.isCandidate]
  by_cases suspended : r.state = .suspended
  · rw [swappedBy, if_pos suspended, if_neg]
    simpa using fun inOrder => listed.mp inOrder suspended
  · rw [swappedBy, if_neg suspended, if_pos]
    simpa using listed.mpr suspended

/-- Settles O32: the states in their order, the tunes by id, then the notice of the swap. -/
theorem swapReplacesTheCalendar : Obligations.SwapReplacesTheCalendar := by
  intro sh order s ok perm strict phaseOf tells
  obtain ⟨ports, profiles, swapped, entries, heard⟩ := swap_eq ok perm strict sh
  have table : s.requests.table.map (swappedBy sh.placed order) = s.requests.table.map fun r =>
      if r.state = .suspended then r else swappedTo sh.placed r :=
    List.map_congr_left fun r here => swappedBy_eq perm _ here
  have slots : sh.slots.map (Slot.cleaned s) = sh.slots.map
      (dropPairs fun p => !s.requests.table.any fun r => r.named p.host p.tag && r.state != .suspended) :=
    List.map_congr_left fun slot _ => cleaned_eq ok slot
  refine ⟨ports, profiles, ?_⟩
  intro t
  have same : swap sh s = t := by
    rw [swapped, statesSet, swappedCalendar, table, slots]
    rfl
  have users (id : Fin 16) : (statesSet sh.placed order s).hasActiveUser id = t.hasActiveUser id := by
    rw [← same, swapped]
    rfl
  refine ⟨same, fun id => ?_, fun g => ?_⟩
  · refine (entries id).trans (congrArg (Option.map · (s.profile id)) (funext fun p => ?_))
    cases mode : p.mode <;> simp only [abortedProfile, mode, users]
  · have requests : (fun r : Request => (swapNotice r.state (placedPhase sh.placed r)).map fun kind =>
        { kind := kind, subject := r.tag, detail := 0 : Notice }) = tells := funext fun r => by
      have phase : placedPhase sh.placed r = phaseOf r := rfl
      cases state : r.state <;> cases placed : phaseOf r <;>
        simp only [tells, state, phase, placed, swapNotice, Option.map_some, Option.map_none]
    have tunes (id : Fin 16) : (statesSet sh.placed order s).profile id = s.profile id := rfl
    rw [heard g, told_get_posted, toPort_append, toPort_swapNotices, toPort_tuneAborts, requests]
    refine if_congr Iff.rfl (congrArg (fun l => { s.port g with notices := l.foldl joinNotice (s.port g).notices })
      (congrArg (_ ++ · ++ _) (List.filterMap_congr fun id _ => ?_))) rfl
    cases held : s.profile id with
    | none => simp only [tuneAbortedTo, tunes, held]
    | some p => cases mode : p.mode <;> simp only [tuneAbortedTo, tunes, users, held, mode]

end Sys2Proof.Proofs

/-! The part after reset (R160). -/

namespace Sys2Proof.Proofs

open Sys2Proof.Machine Sys2Proof.Safety

theorem recordQueuesOk_reset : RecordQueuesOk State.reset := fun h => by
  cases h <;> exact ⟨by decide, by decide, nofun⟩

theorem recordOrderOk_reset : RecordOrderOk State.reset where
  increasing h := by cases h <;> exact .nil
  numbered h := by cases h <;> exact nofun
  inFlight := nofun

theorem portsOk_reset : PortsOk State.reset := fun h => by
  cases h <;> exact
    { distinct := .nil, numbered := nofun, awaited := nofun, attachedOrDetaching := nofun, overtaken := nofun
      held := nofun, quiet := fun _ => ⟨rfl, rfl⟩ }

theorem holdingsOk_reset (h : HostId) : HoldingsOk State.reset h := fun _ => by
  have profiles : noProfile State.reset h := fun id p held => by
    rw [profile_reset] at held
    cases held
  cases h <;> exact ⟨rfl, profiles, rfl, rfl⟩

theorem tablesOk_reset : TablesOk State.reset where
  ports := portsOk_reset
  requests := requestsAndProfiles_reset.1
  profiles := requestsAndProfiles_reset.2
  holdings := holdingsOk_reset

/-- Settles O60: each form by itself. -/
theorem resetHasEveryForm : Obligations.ResetHasEveryForm :=
  ⟨noticeQueuesOk_reset, recordQueuesOk_reset, recordOrderOk_reset, engineOk_reset, nofun, requestsOk_steps.reset,
    requestsAndTunes_steps.reset.2, calendarOk_steps.reset, tablesOk_reset, quotasOk_steps.reset⟩

end Sys2Proof.Proofs

/-! What a build makes of its candidates (R42, R45 to R47, R50, R51): after every placement each slot serves exactly
those the placed candidates occupy it for. -/

namespace Sys2Proof.Proofs

open Sys2Proof.Machine Sys2Proof.Safety

/-! ### The length of a build (R47) -/

theorem buildLength_bounds (candidates : List Candidate) :
    1 ≤ buildLength candidates ∧ (∀ c ∈ candidates, c.period ≤ buildLength candidates) ∧
      (buildLength candidates = 1 ∨ ∃ c ∈ candidates, c.period = buildLength candidates) := by
  unfold buildLength
  generalize 1 = start
  induction candidates generalizing start with
  | nil => exact ⟨le_refl _, nofun, .inl rfl⟩
  | cons c rest ih =>
    obtain ⟨above, covers, reached⟩ := ih (max start c.period)
    rw [List.foldl_cons]
    refine ⟨(le_max_left ..).trans above, fun d here => ?_, ?_⟩
    · rcases List.mem_cons.mp here with rfl | later
      · exact (le_max_right ..).trans above
      · exact covers d later
    · rcases reached with same | ⟨d, later, same⟩
      · rw [same]
        rcases max_choice start c.period with first | own
        · exact .inl first
        · exact .inr ⟨c, List.mem_cons_self, own.symm⟩
      · exact .inr ⟨d, List.mem_cons_of_mem _ later, same⟩

/-- Of two cycle lengths the lower divides the higher. -/
theorem cycleLength_dvd {m n : Nat} (low : CycleLength m) (high : CycleLength n) (le : m ≤ n) : m ∣ n := by
  simp only [CycleLength, List.mem_cons, List.not_mem_nil, or_false] at low high
  rcases low with rfl | rfl | rfl | rfl | rfl | rfl | rfl <;>
    rcases high with rfl | rfl | rfl | rfl | rfl | rfl | rfl <;> omega

/-! ### Whom a slot serves (R42, R45) -/

/-- Slot `n` serves a pair with a profile and step: a candidate placed has that name and occupies the slot so. -/
def Serves (candidates : List Candidate) (placed : List Placed) (n : Nat) (profile : Fin 16) (step : Nat)
    (pair : Subscriber) : Prop :=
  ∃ c ∈ candidates, ∃ phase, { owner := c.owner, tag := c.tag, phase := phase : Placed } ∈ placed ∧
    pair = { host := c.owner, tag := c.tag } ∧ c.profile = profile ∧ n % c.period = phase + step ∧ step < c.stepCount

/-- A slot holds exactly those it is to serve, at most four of them, each once. -/
def Slot.Holds (serves : Fin 16 → Nat → Subscriber → Prop) : Slot → Prop
  | .idle => ∀ profile step pair, ¬serves profile step pair
  | .assigned p i subscribers => subscribers.Nodup ∧ subscribers.length ≤ 4 ∧
    ∀ profile step pair, serves profile step pair ↔ p = profile ∧ i = step ∧ pair ∈ subscribers

theorem Slot.Holds.congr {serves serves' : Fin 16 → Nat → Subscriber → Prop} {slot : Slot}
    (holds : Slot.Holds serves slot) (same : ∀ p i pair, serves' p i pair ↔ serves p i pair) :
    Slot.Holds serves' slot := by
  have equal : serves' = serves := funext fun p => funext fun i => funext fun pair => propext (same p i pair)
  exact equal ▸ holds

/-- A slot with room for one more pair, which it did not serve before. -/
theorem Slot.Holds.withSubscriber {serves serves' : Fin 16 → Nat → Subscriber → Prop} {slot : Slot}
    (holds : Slot.Holds serves slot) {profile : Fin 16} {step : Nat} {new : Subscriber}
    (room : slot = .idle ∨ ∃ subscribers, slot = .assigned profile step subscribers ∧ subscribers.length < 4)
    (fresh : ∀ p i, ¬serves p i new)
    (joins : ∀ p i pair, serves' p i pair ↔ serves p i pair ∨ (pair = new ∧ profile = p ∧ step = i)) :
    Slot.Holds serves' (slot.withSubscriber profile step new) := by
  rcases room with rfl | ⟨subscribers, rfl, few⟩
  · refine ⟨List.nodup_singleton _, by simp, fun p i pair => ?_⟩
    rw [joins, List.mem_singleton]
    have none := holds p i pair
    tauto
  · obtain ⟨distinct, -, holds⟩ := holds
    have absent : new ∉ subscribers := fun here => fresh profile step ((holds ..).mpr ⟨rfl, rfl, here⟩)
    refine ⟨List.nodup_append.mpr ⟨distinct, List.nodup_singleton _, fun a old b isNew same => ?_⟩, by simpa using few,
      fun p i pair => ?_⟩
    · rw [List.mem_singleton] at isNew
      exact absent (isNew ▸ same ▸ old)
    · rw [joins, holds, List.mem_append, List.mem_singleton]
      tauto

/-! ### One placement after another (R50) -/

/-- Two candidates have different names. -/
def NamesApart (a b : Candidate) : Prop := ¬(a.owner = b.owner ∧ a.tag = b.tag)

/-- The shadow of a build that has come to the candidates `done`. -/
structure BuiltFrom (done : List Candidate) (length : Nat) (sh : Shadow) : Prop where
  length : sh.slots.length = length
  counted : sh.placed.length + sh.unplaced = done.length
  distinct : sh.placed.Pairwise fun a b => ¬(a.owner = b.owner ∧ a.tag = b.tag)
  origin : ∀ q ∈ sh.placed, ∃ c ∈ done, c.owner = q.owner ∧ c.tag = q.tag ∧ q.phase + c.stepCount ≤ c.period
  slots : ∀ n slot, sh.slots[n]? = some slot → Slot.Holds (Serves done sh.placed n) slot

/-- A candidate with a name of its own has no place yet. -/
theorem BuiltFrom.unplaced {done : List Candidate} {length : Nat} {sh : Shadow} (built : BuiltFrom done length sh)
    {c : Candidate} (apart : ∀ d ∈ done, NamesApart d c) {q : Placed} (here : q ∈ sh.placed) :
    ¬(q.owner = c.owner ∧ q.tag = c.tag) := fun ⟨owner, tag⟩ => by
  obtain ⟨d, old, owner', tag', -⟩ := built.origin q here
  exact apart d old ⟨owner'.trans owner, tag'.trans tag⟩

/-- Whom a slot serves does not turn on a candidate without a place. -/
theorem serves_append_unplaced {done : List Candidate} {placed : List Placed} {c : Candidate}
    (none : ∀ q ∈ placed, ¬(q.owner = c.owner ∧ q.tag = c.tag)) (n : Nat) (p : Fin 16) (i : Nat) (pair : Subscriber) :
    Serves (done ++ [c]) placed n p i pair ↔ Serves done placed n p i pair := by
  constructor
  · rintro ⟨d, inDone, phase, stands, rest⟩
    rcases List.mem_append.mp inDone with old | new
    · exact ⟨d, old, phase, stands, rest⟩
    · rw [List.mem_singleton] at new
      subst new
      exact absurd ⟨rfl, rfl⟩ (none _ stands)
  · rintro ⟨d, old, rest⟩
    exact ⟨d, List.mem_append_left _ old, rest⟩

/-- A candidate placed is served, and nobody else besides those served before. -/
theorem serves_append_placed {done : List Candidate} {placed : List Placed} {c : Candidate} {phase : Nat}
    (apart : ∀ d ∈ done, NamesApart d c) (none : ∀ q ∈ placed, ¬(q.owner = c.owner ∧ q.tag = c.tag)) (n : Nat)
    (p : Fin 16) (i : Nat) (pair : Subscriber) :
    Serves (done ++ [c]) (placed ++ [{ owner := c.owner, tag := c.tag, phase := phase }]) n p i pair ↔
      Serves done placed n p i pair ∨
        (pair = { host := c.owner, tag := c.tag } ∧ c.profile = p ∧ n % c.period = phase + i ∧ i < c.stepCount) := by
  constructor
  · rintro ⟨d, inDone, at', stands, rest⟩
    rw [List.mem_append, List.mem_singleton] at inDone stands
    rcases inDone with old | rfl <;> rcases stands with stands | stands
    · exact .inl ⟨d, old, at', stands, rest⟩
    · injection stands with owner tag
      exact absurd ⟨owner, tag⟩ (apart d old)
    · exact absurd ⟨rfl, rfl⟩ (none _ stands)
    · injection stands with _ _ same
      exact .inr (same ▸ rest)
  · rintro (⟨d, old, at', stands, rest⟩ | rest)
    · exact ⟨d, List.mem_append_left _ old, at', List.mem_append_left _ stands, rest⟩
    · exact ⟨c, by simp, phase, by simp, rest⟩

theorem BuiltFrom.place {done : List Candidate} {length : Nat} {sh : Shadow} (built : BuiltFrom done length sh)
    {c : Candidate} (ok : CandidateOk c) (dvd : c.period ∣ length) (apart : ∀ d ∈ done, NamesApart d c) :
    BuiltFrom (done ++ [c]) length (placeCandidate sh c) := by
  have none := fun q here => built.unplaced apart (q := q) here
  rw [← built.length] at dvd
  cases found : (phasesTried c).find? (phaseFits sh.slots c) with
  | none =>
    rw [placeCandidate_of_find?_none found]
    exact
      { length := built.length
        counted := by simp [← built.counted, Nat.add_assoc]
        distinct := built.distinct
        origin := fun q here => by
          obtain ⟨d, old, rest⟩ := built.origin q here
          exact ⟨d, List.mem_append_left _ old, rest⟩
        slots := fun n slot at' => (built.slots n slot at').congr (serves_append_unplaced none n) }
  | some phase =>
    have high : phase + c.stepCount ≤ c.period := (mem_phasesTried ok).mp (List.mem_of_find?_eq_some found)
    have fits : Fits sh.slots c phase := (phaseFits_iff high dvd).mp (List.find?_some found)
    rw [placeCandidate_of_find?_some found]
    refine ⟨(length_placeAt ..).trans built.length, ?_, ?_, fun q here => ?_, fun n slot at' => ?_⟩
    · have := built.counted
      simp only [List.length_append, List.length_singleton]
      omega
    · refine List.pairwise_append.mpr ⟨built.distinct, List.pairwise_singleton .., fun q here q' new => ?_⟩
      rw [List.mem_singleton] at new
      subst new
      exact none q here
    · rw [List.mem_append, List.mem_singleton] at here
      rcases here with old | rfl
      · obtain ⟨d, old, rest⟩ := built.origin q old
        exact ⟨d, List.mem_append_left _ old, rest⟩
      · exact ⟨c, by simp, rfl, rfl, high⟩
    · by_cases inside : Occupies c phase n
      · have inRange : n < sh.slots.length := by
          rw [← length_placeAt sh.slots c phase]
          exact (List.getElem?_eq_some_iff.mp at').1
        rw [getElem?_placeAt_of_occupies high dvd inRange inside] at at'
        obtain ⟨old, before, rfl⟩ := Option.map_eq_some_iff.mp at'
        refine (built.slots n old before).withSubscriber (fits.2 n old inside before) (fun p i serves => ?_)
          fun p i pair => ?_
        · obtain ⟨d, inDone, at', stands, same, -⟩ := serves
          injection same with owner tag
          exact none _ stands ⟨owner.symm, tag.symm⟩
        · obtain ⟨low, lt⟩ := inside
          rw [serves_append_placed apart none]
          refine or_congr_right (and_congr_right fun _ => and_congr_right fun _ => ?_)
          omega
      · rw [getElem?_placeAt_of_not_occupies high dvd inside] at at'
        refine (built.slots n slot at').congr fun p i pair => ?_
        rw [serves_append_placed apart none, or_iff_left]
        rintro ⟨-, -, place, less⟩
        exact inside ⟨by omega, by omega⟩

theorem BuiltFrom.foldl {length : Nat} {l done : List Candidate} {sh : Shadow} (built : BuiltFrom done length sh)
    (ok : ∀ c ∈ l, CandidateOk c ∧ c.period ∣ length) (apart : (done ++ l).Pairwise NamesApart) :
    BuiltFrom (done ++ l) length (l.foldl placeCandidate sh) := by
  induction l generalizing done sh with
  | nil => rwa [List.append_nil]
  | cons c l ih =>
    obtain ⟨form, dvd⟩ := ok c List.mem_cons_self
    rw [List.append_cons] at apart ⊢
    have before := (List.pairwise_append.mp (List.pairwise_append.mp apart).1).2.2
    exact ih (built.place form dvd fun d here => before d here c (List.mem_singleton_self c))
      (fun d here => ok d (List.mem_cons_of_mem _ here)) apart

theorem builtFrom_buildShadow {candidates : List Candidate} (ok : ∀ c ∈ candidates, CandidateOk c)
    (apart : candidates.Pairwise NamesApart) :
    BuiltFrom (buildOrder candidates) (buildLength candidates) (buildShadow candidates) := by
  have perm := buildOrder_perm candidates
  have symm : ∀ {a b : Candidate}, NamesApart a b → NamesApart b a := fun other ⟨owner, tag⟩ => other ⟨owner.symm, tag.symm⟩
  have start : BuiltFrom [] (buildLength candidates)
      { slots := List.replicate (buildLength candidates) .idle, placed := [], unplaced := 0 } :=
    { length := List.length_replicate
      counted := rfl
      distinct := .nil
      origin := nofun
      slots := fun n slot at' => by
        rw [List.eq_of_mem_replicate (List.mem_of_getElem? at')]
        rintro p i pair ⟨c, here, -⟩
        cases here }
  have periods : ∀ c ∈ candidates, isPeriod c.period = true := fun c here => (ok c here).period
  refine start.foldl (fun c here => ?_) ((perm.pairwise_iff symm).mpr apart)
  have listed := perm.mem_iff.mp here
  exact ⟨ok c listed, cycleLength_dvd ((cycleLength_iff _).mpr (periods c listed)) (buildLength_cycleLength periods)
    ((buildLength_bounds candidates).2.1 c listed)⟩

/-- Settles O31: by the invariant of the placements. -/
theorem everyBuildMakesASoundCalendar : Obligations.EveryBuildMakesASoundCalendar := by
  intro candidates ok apart sh
  have built : BuiltFrom (buildOrder candidates) (buildLength candidates) sh := builtFrom_buildShadow ok apart
  have perm := buildOrder_perm candidates
  obtain ⟨-, covers, reached⟩ := buildLength_bounds candidates
  rw [← built.length] at covers reached
  have serves (n : Nat) (p : Fin 16) (i : Nat) (pair : Subscriber) :
      Serves (buildOrder candidates) sh.placed n p i pair ↔ Serves candidates sh.placed n p i pair := by
    simp only [Serves, perm.mem_iff]
  have holds (n : Nat) (slot : Slot) (at' : sh.slots[n]? = some slot) :
      Slot.Holds (Serves candidates sh.placed n) slot :=
    (built.slots n slot at').congr fun p i pair => (serves n p i pair).symm
  refine ⟨slotsOk_buildShadow fun c here => (ok c here).period, covers, reached,
    built.counted.trans perm.length_eq, built.distinct, fun q here => ?_, fun p i subscribers here => ?_,
    fun n p i subscribers pair at' => ?_, fun c here phase i n stands less inRange place => ?_⟩
  · obtain ⟨c, listed, rest⟩ := built.origin q here
    exact ⟨c, perm.mem_iff.mp listed, rest⟩
  · obtain ⟨n, at'⟩ := List.mem_iff_getElem?.mp here
    obtain ⟨distinct, few, -⟩ := holds n _ at'
    exact ⟨distinct, few⟩
  · obtain ⟨-, -, exact'⟩ := holds n _ at'
    exact ((exact' p i pair).trans (by simp)).symm
  · have served : Serves candidates sh.placed n c.profile i { host := c.owner, tag := c.tag } :=
      ⟨c, here, phase, stands, rfl, rfl, place, less⟩
    have at' := List.getElem?_eq_getElem inRange
    have held := holds n _ at'
    generalize sh.slots[n] = slot at at' held
    cases slot with
    | idle => exact (held _ _ _ served).elim
    | assigned p j subscribers =>
      obtain ⟨-, -, exact'⟩ := held
      obtain ⟨rfl, rfl, inList⟩ := (exact' ..).mp served
      exact ⟨subscribers, at', inList⟩

end Sys2Proof.Proofs

/-! The bookkeeping of a port (R144, R145, R147 to R152): its form by the port and the serial numbers that are open,
and what each happening at a port makes of it. -/

namespace Sys2Proof.Proofs

open Sys2Proof.Machine Sys2Proof.Safety

/-! ### The form of a port -/

/-- The bookkeeping of a port, `serials` being those whose answer is still to come or on its way. -/
structure PortForm (p : Port) (serials : List Nat) : Prop where
  distinct : serials.Nodup
  numbered : ∀ n ∈ serials, n < p.nextSerial
  awaited : ∀ c ∈ p.handed, c.stale = false → p.buffer = .pending c.serial
  attachedOrDetaching : p.attached = true → p.detaching = none
  overtaken : p.detaching.isSome = true → ∀ c ∈ p.handed, c.stale = true
  held : p.detaching.isSome = true →
    p.buffer = .pendingDetach ∨ ∃ n, p.buffer = .pending n ∧ n < p.nextSerial ∧ n ∉ serials
  quiet : p.attached = false → p.notices = [] ∧ p.mask = 0

theorem portOk_iff (s : State) (h : HostId) : PortOk s h ↔ PortForm (s.port h) (openSerials s h) :=
  ⟨fun ⟨a, b, c, d, e, f, g⟩ => ⟨a, b, c, d, e, f, g⟩, fun ⟨a, b, c, d, e, f, g⟩ => ⟨a, b, c, d, e, f, g⟩⟩

namespace PortForm

variable {p : Port} {serials : List Nat}

theorem fewer (form : PortForm p serials) {left : List Nat} (subperm : left.Subperm serials) :
    PortForm p left where
  distinct := by
    obtain ⟨l, perm, sublist⟩ := subperm
    exact perm.nodup_iff.mp (form.distinct.sublist sublist)
  numbered n here := form.numbered n (subperm.subset here)
  awaited := form.awaited
  attachedOrDetaching := form.attachedOrDetaching
  overtaken := form.overtaken
  held detaching := (form.held detaching).imp_right fun ⟨n, buffer, less, out⟩ =>
    ⟨n, buffer, less, fun here => out (subperm.subset here)⟩
  quiet := form.quiet

/-- A serial number that is not open joins, which the buffer does not hold for a detach. -/
theorem more (form : PortForm p serials) {n : Nat} (out : n ∉ serials) (less : n < p.nextSerial)
    (free : p.detaching.isSome = true → p.buffer ≠ .pending n) : PortForm p (n :: serials) where
  distinct := List.nodup_cons.mpr ⟨out, form.distinct⟩
  numbered m here := by
    rcases List.mem_cons.mp here with rfl | old
    · exact less
    · exact form.numbered m old
  awaited := form.awaited
  attachedOrDetaching := form.attachedOrDetaching
  overtaken := form.overtaken
  held detaching := (form.held detaching).imp_right fun ⟨m, buffer, bound, gone⟩ =>
    ⟨m, buffer, bound, fun here => by
      rcases List.mem_cons.mp here with rfl | old
      · exact free detaching buffer
      · exact gone old⟩
  quiet := form.quiet

/-- A port with other notices while attached, another transaction, other answers, or fewer commands. -/
theorem congr (form : PortForm p serials) {q : Port} (attached : q.attached = p.attached)
    (buffer : q.buffer = p.buffer) (detaching : q.detaching.isSome = p.detaching.isSome)
    (next : q.nextSerial = p.nextSerial)
    (handed : ∀ c ∈ q.handed, ∃ b ∈ p.handed, b.serial = c.serial ∧ b.stale = c.stale)
    (quiet : p.attached = false → q.notices = p.notices ∧ q.mask = p.mask) : PortForm q serials where
  distinct := form.distinct
  numbered := next ▸ form.numbered
  awaited c here fresh := by
    obtain ⟨b, old, serial, stale⟩ := handed c here
    rw [buffer, ← serial]
    exact form.awaited b old (stale.trans fresh)
  attachedOrDetaching on := by
    have none := form.attachedOrDetaching (attached ▸ on)
    rw [none] at detaching
    simpa using detaching
  overtaken on c here := by
    obtain ⟨b, old, -, stale⟩ := handed c here
    exact stale ▸ form.overtaken (detaching ▸ on) b old
  held on := by
    rw [buffer, next]
    exact form.held (detaching ▸ on)
  quiet off := by
    obtain ⟨notices, mask⟩ := quiet (attached ▸ off)
    rw [notices, mask]
    exact form.quiet (attached ▸ off)

theorem same_handed {q : Port} (same : q.handed = p.handed) :
    ∀ c ∈ q.handed, ∃ b ∈ p.handed, b.serial = c.serial ∧ b.stale = c.stale :=
  fun c here => ⟨c, same ▸ here, rfl, rfl⟩

/-- A port with another transaction under way. -/
theorem transfer (form : PortForm p serials) (hrst : Bool) (select : Option Transfer) (out : List Byte) :
    PortForm { p with hrstLow := hrst, select := select, shiftedOut := out } serials :=
  form.congr rfl rfl rfl rfl (same_handed rfl) fun _ => ⟨rfl, rfl⟩

/-- While no detach is under way and the port is free, no command waits that no detach has overtaken. -/
theorem no_fresh (form : PortForm p serials) (free : p.buffer.isPending = false) :
    (∀ c ∈ p.handed, c.stale = true) ∧ p.detaching = none := by
  constructor
  · intro c here
    by_contra fresh
    rw [form.awaited c here (by simpa using fresh)] at free
    cases free
  · cases detaching : p.detaching with
    | none => rfl
    | some d =>
      rcases form.held (by rw [detaching]; rfl) with pending | ⟨n, pending, -⟩ <;>
        rw [pending] at free <;> cases free

/-- Where every command is overtaken and no detach is under way, the buffer may hold anything. -/
theorem rebuffer (form : PortForm p serials) (overtaken : ∀ c ∈ p.handed, c.stale = true) {q : Port}
    (attached : q.attached = p.attached) (detaching : q.detaching = none) (handed : q.handed = p.handed)
    (next : p.nextSerial ≤ q.nextSerial) (notices : q.notices = p.notices) (mask : q.mask = p.mask) :
    PortForm q serials where
  distinct := form.distinct
  numbered n here := (form.numbered n here).trans_le next
  awaited c here fresh := by
    rw [overtaken c (handed ▸ here)] at fresh
    cases fresh
  attachedOrDetaching _ := detaching
  overtaken on := by
    rw [detaching] at on
    cases on
  held on := by
    rw [detaching] at on
    cases on
  quiet off := by
    rw [notices, mask]
    exact form.quiet (attached ▸ off)

/-- An answer reaches the buffer, of a command that has left the block (R147). -/
theorem deliver (form : PortForm p serials) {n : Nat} (isOpen : n ∈ serials)
    (left : ∀ c ∈ p.handed, c.serial ≠ n) (r : Response) :
    PortForm { p with buffer := if p.buffer = .pending n then .ready r else p.buffer } serials := by
  by_cases waits : p.buffer = .pending n
  · have none : p.detaching = none := by
      cases detaching : p.detaching with
      | none => rfl
      | some d =>
        rcases form.held (by rw [detaching]; rfl) with pending | ⟨m, pending, -, out⟩
        · rw [waits] at pending
          cases pending
        · rw [waits] at pending
          cases pending
          exact absurd isOpen out
    refine form.rebuffer (fun c here => ?_) rfl none rfl (le_refl _) rfl rfl
    by_contra fresh
    have awaited := form.awaited c here (by simpa using fresh)
    rw [waits] at awaited
    cases awaited
    exact left c here rfl
  · rw [if_neg waits]
    exact form

/-- The first step of a detach, begun by a pulse, or by a DETACH whose answer is still to come (R149, R150). -/
theorem detach (form : PortForm p serials) (answers : Option Nat)
    (held : ∀ n, answers = some n → p.buffer = .pending n ∧ n < p.nextSerial ∧ n ∉ serials) :
    PortForm
      { p with
        attached := false
        notices := []
        mask := 0
        discarded := false
        buffer := match answers with
          | some _ => p.buffer
          | none => .pendingDetach
        handed := p.handed.map fun c => { c with stale := true }
        detaching := some { next := .requests, answers := answers, left := detachTime } } serials where
  distinct := form.distinct
  numbered := form.numbered
  awaited c here fresh := by
    obtain ⟨b, -, rfl⟩ := List.mem_map.mp here
    cases fresh
  attachedOrDetaching on := nomatch on
  overtaken _ c here := by
    obtain ⟨b, -, rfl⟩ := List.mem_map.mp here
    rfl
  held _ := by
    cases answers with
    | none => exact .inl rfl
    | some n => exact .inr ⟨n, held n rfl⟩
  quiet _ := ⟨rfl, rfl⟩

end PortForm

/-! ### The open serial numbers of a state -/

theorem openSerials_eq (s : State) (h : HostId) :
    openSerials s h =
      (s.port h).handed.map (·.serial) ++ (s.port h).answers.map (·.serial) ++ linkSerials s h ++
        stopSerials s h := rfl

theorem stopSerials_of_engine {s t : State} (same : t.engine.stopWaiting = s.engine.stopWaiting) (h : HostId) :
    stopSerials t h = stopSerials s h := by
  rw [stopSerials, same]
  rfl

/-- The work of the link and of a STOP falls away, and the port is the same but for its notices. -/
theorem openSerials_sublist {s t : State} {h : HostId}
    (handed : (t.port h).handed.map (·.serial) = (s.port h).handed.map (·.serial))
    (answers : (t.port h).answers.map (·.serial) = (s.port h).answers.map (·.serial))
    (link : (linkSerials t h).Sublist (linkSerials s h))
    (stop : (stopSerials t h).Sublist (stopSerials s h)) : (openSerials t h).Sublist (openSerials s h) := by
  rw [openSerials_eq, openSerials_eq, handed, answers]
  exact ((List.Sublist.refl _).append link).append stop

theorem openSerials_setPort_self (s : State) (h : HostId) (p : Port) :
    openSerials (s.setPort h p) h =
      p.handed.map (·.serial) ++ p.answers.map (·.serial) ++ linkSerials s h ++ stopSerials s h := by
  rw [openSerials_eq, State.setPort_port_self]
  rfl

theorem openSerials_setPort_other {s : State} {h g : HostId} (other : g ≠ h) (p : Port) :
    openSerials (s.setPort h p) g = openSerials s g := by
  rw [openSerials_eq, State.setPort_port, if_neg other]
  rfl

/-! ### The four ports, with the command that a block has in hand -/

/-- The bookkeeping of every port, where blocks have in hand the commands of the serial numbers given. -/
def PortsHold (inHand : HostId → List Nat) (s : State) : Prop :=
  ∀ h, PortForm (s.port h) (inHand h ++ openSerials s h)

/-- No block has a command in hand. -/
def noneInHand : HostId → List Nat := fun _ => []

/-- One block has a command in hand. -/
def oneInHand (h : HostId) (n : Nat) : HostId → List Nat := fun g => if g = h then [n] else []

theorem portsOk_iff (s : State) : PortsOk s ↔ PortsHold noneInHand s := forall_congr' (portOk_iff s)

theorem oneInHand_self (h : HostId) (n : Nat) : oneInHand h n h = [n] := if_pos rfl

theorem oneInHand_other {h g : HostId} (other : g ≠ h) (n : Nat) : oneInHand h n g = [] := if_neg other

section Hold

variable {inHand : HostId → List Nat} {s t : State}

/-- Fewer serial numbers are open, and a port is no other. -/
theorem PortsHold.fewer (ok : PortsHold inHand s) {inHand' : HostId → List Nat} (ports : t.ports = s.ports)
    (serials : ∀ h, (inHand' h ++ openSerials t h).Subperm (inHand h ++ openSerials s h)) :
    PortsHold inHand' t := fun h => by
  rw [State.port, ports]
  exact (ok h).fewer (serials h)

/-- Notices are told, the link's work and a STOP fall away, and the ports are as they were besides. -/
theorem PortsHold.posts (ok : PortsHold inHand s) (posts : Posts s t) (link : KeepsSerials s t)
    (stop : ∀ h, (stopSerials t h).Sublist (stopSerials s h)) : PortsHold inHand t := fun h => by
  obtain ⟨taken, port⟩ := posts.port h
  have serials : (openSerials t h).Sublist (openSerials s h) :=
    openSerials_sublist (by rw [port]) (by rw [port]) (link h) (stop h)
  refine PortForm.fewer ?_ (serials.append_left _).subperm
  rw [port]
  refine (ok h).congr rfl rfl rfl rfl (PortForm.same_handed rfl) fun off => ⟨?_, rfl⟩
  dsimp only
  rw [off]
  exact if_neg Bool.false_ne_true

theorem PortsHold.tables (ok : PortsHold inHand s) (posts : Posts s t) (touches : TouchesTables s t) :
    PortsHold inHand t :=
  ok.posts posts (keepsSerials_of_link (by rw [touches]))
    fun h => by rw [stopSerials_of_engine (s := s) (by rw [touches])]

theorem PortsHold.records (ok : PortsHold inHand s) (posts : Posts s t) (touches : TouchesRecords s t) :
    PortsHold inHand t :=
  ok.posts posts (keepsSerials_of_link (by rw [touches]))
    fun h => by rw [stopSerials_of_engine (s := s) (by rw [touches])]

theorem PortsHold.link (ok : PortsHold inHand s) (touches : TouchesLink s t) (link : KeepsSerials s t) :
    PortsHold inHand t :=
  ok.posts (.of_ports (by rw [touches])) link
    fun h => by rw [stopSerials_of_engine (s := s) (by rw [touches])]

/-- A state with the same ports, the same direct commands and the same STOP. -/
theorem PortsHold.same (ok : PortsHold inHand s) (ports : t.ports = s.ports) (link : t.link = s.link)
    (stop : t.engine.stopWaiting = s.engine.stopWaiting) : PortsHold inHand t :=
  ok.posts (.of_ports ports) (keepsSerials_of_link link)
    fun h => by rw [stopSerials_of_engine (s := s) stop]

/-- One port replaced, by one whose form holds with the serial numbers open then. -/
theorem PortsHold.setPort (ok : PortsHold inHand s) {inHand' : HostId → List Nat} (h : HostId) {p : Port}
    (others : ∀ g, g ≠ h → inHand' g = inHand g)
    (form : PortForm p (inHand' h ++
      (p.handed.map (·.serial) ++ p.answers.map (·.serial) ++ linkSerials s h ++ stopSerials s h))) :
    PortsHold inHand' (s.setPort h p) := fun g => by
  by_cases same : g = h
  · subst same
    rw [State.setPort_port_self, openSerials_setPort_self]
    exact form
  · rw [State.setPort_port, if_neg same, openSerials_setPort_other same, others g same]
    exact ok g

/-- One port replaced, with the same commands and answers. -/
theorem PortsHold.setPort_same (ok : PortsHold inHand s) (h : HostId) {p : Port}
    (handed : p.handed.map (·.serial) = (s.port h).handed.map (·.serial))
    (answers : p.answers.map (·.serial) = (s.port h).answers.map (·.serial))
    (form : ∀ serials, PortForm (s.port h) serials → PortForm p serials) : PortsHold inHand (s.setPort h p) := by
  refine ok.setPort h (fun _ _ => rfl) ?_
  rw [handed, answers]
  exact form _ (ok h)

/-- A serial number that is open at a port, and of no command handed on. -/
theorem PortForm.not_handed {p : Port} {e a l w : List Nat} {n : Nat}
    (form : PortForm p (e ++ (p.handed.map (·.serial) ++ a ++ l ++ w))) (elsewhere : n ∈ e ++ a ++ l ++ w) :
    ∀ c ∈ p.handed, c.serial ≠ n := by
  rintro c here rfl
  have listed : c.serial ∈ p.handed.map (·.serial) := List.mem_map_of_mem here
  have distinct : (p.handed.map (·.serial) ++ (e ++ a ++ l ++ w)).Nodup :=
    (List.Perm.nodup_iff (List.perm_iff_count.mpr fun m => by
      simp only [List.count_append]
      omega)).mp form.distinct
  exact (List.nodup_append.mp distinct).2.2 _ listed _ elsewhere rfl

/-- An answer reaches a buffer, of a command that has left the list of those handed on (R147). -/
theorem PortsHold.deliver (ok : PortsHold inHand s) (h : HostId) {n : Nat}
    (elsewhere : n ∈ inHand h ++ (s.port h).answers.map (·.serial) ++ linkSerials s h ++ stopSerials s h)
    (r : Response) : PortsHold inHand (deliverAnswer h n r s) := by
  rw [deliverAnswer_eq]
  refine ok.setPort h (fun _ _ => rfl) ?_
  have form := ok h
  rw [openSerials_eq] at form
  refine form.deliver ?_ (form.not_handed elsewhere) r
  simp only [List.mem_append] at elsewhere ⊢
  tauto

/-- The answer to a STOP reaches the buffer that waits for it (R169). -/
theorem PortsHold.answerStop (ok : PortsHold inHand s) : PortsHold inHand (answerStop s) := by
  rcases waits : s.engine.stopWaiting with _ | ⟨h, n⟩
  · rwa [answerStop_none waits]
  · have serial : stopSerials s h = [n] := by simp [stopSerials, waits]
    have delivered := ok.deliver h (n := n) (by simp [serial]) { status := .ok, results := beBytes 1 s.engine.state.code }
    have answered : Machine.answerStop s =
        { deliverAnswer h n { status := .ok, results := beBytes 1 s.engine.state.code } s with
          engine := { s.engine with stopWaiting := none } } := by
      rw [answerStop_some waits, deliverAnswer_eq, deliverAnswer_eq]
      rfl
    rw [answered]
    exact delivered.posts (.of_ports rfl) (keepsSerials_of_link rfl) fun g => List.nil_sublist _

theorem portsHold_rule (inHand : HostId → List Nat) : FrameRule (PortsHold inHand) where
  apart ok apart := ok.same (by rw [apart]) (by rw [apart]) (by rw [apart])
  link ok touches keeps := ok.link touches keeps
  post n s ok := ok.tables (postToAll_posts n s) (postToAll_touches n s)
  compose c outcome s h _ ok := ok.records (composeRecord_posts c outcome s h) (composeRecord_touches c outcome s h)
  judge c outcome s ok := ok.tables (judgeFrame_posts c outcome s) (judgeFrame_touches c outcome s)
  occasions c outcome s ok := ok.tables (countOccasions_posts c outcome s) (countOccasions_touches c outcome s)
  swap sh s _ ok := ok.tables (swap_posts sh s) (swap_touches sh s)
  answerStop s ok := ok.answerStop

end Hold

end Sys2Proof.Proofs

/-! The ports' bookkeeping through every command and happening (R144, R145, R147 to R152). -/

namespace Sys2Proof.Proofs

open Sys2Proof.Machine Sys2Proof.Safety

/-! ### A command taken and answered -/

theorem replaceEntry_keepsSerials (k : ParamKind) (e : MapEntry) (s : State) :
    KeepsSerials s (replaceEntry k e s) := by
  unfold replaceEntry
  split
  · exact .refl s
  · exact fun _ => .refl _

theorem PortsHold.discardRecord {inHand : HostId → List Nat} {s : State} (ok : PortsHold inHand s) (h : HostId)
    (r : Record) : PortsHold inHand (discardRecord h s r) :=
  ok.records (discardRecord_posts h s r) (discardRecord_touches h s r)

/-- What a command of a host makes of the ports, where no detach is under way that has not overtaken it. -/
theorem PortsHold.effect {inHand : HostId → List Nat} {h : HostId} {cmd : Handed} {s t : State}
    (effect : Effect h cmd s t) (free : cmd.stale = false → (s.port h).detaching = none)
    (ok : PortsHold inHand s) : PortsHold inHand t := by
  cases effect with
  | nothing => exact ok
  | attach fresh =>
    have none := free fresh
    have attached : PortsHold inHand (s.setPort h { s.port h with attached := true, mask := 3 }) :=
      ok.setPort_same h rfl rfl fun serials form =>
        { distinct := form.distinct, numbered := form.numbered, awaited := form.awaited
          attachedOrDetaching := fun _ => none, overtaken := form.overtaken, held := form.held, quiet := nofun }
    exact attached.same rfl rfl rfl
  | getNotice attached =>
    exact ok.setPort_same h rfl rfl fun serials form =>
      form.congr rfl rfl rfl rfl (PortForm.same_handed rfl) fun off => by rw [attached] at off; cases off
  | setAttention attached =>
    exact ok.setPort_same h rfl rfl fun serials form =>
      form.congr rfl rfl rfl rfl (PortForm.same_handed rfl) fun off => by rw [attached] at off; cases off
  | submit => exact ok.tables (admitRequest_posts ..) (admitRequest_touches ..)
  | cancel => exact ok.tables (cancelled_posts ..) (cancelled_touches ..)
  | resume =>
    exact ok.tables ((updateRequest_posts ..).trans (trigger_posts _))
      ((updateRequest_touches ..).trans (trigger_touches _))
  | createProfile => exact ok.same rfl rfl rfl
  | edit => exact ok.same rfl rfl rfl
  | rebuild => exact ok.tables (trigger_posts s) (trigger_touches s)
  | @ackRecord r rest =>
    have taken : PortsHold inHand (s.setMailbox h { s.mailbox h with queue := rest }) := ok.same rfl rfl rfl
    exact taken.tables (acknowledgementReport_posts ..) (acknowledgementReport_touches ..)
  | setHold _ limit =>
    have limited : PortsHold inHand (s.setMailbox h { s.mailbox h with holdLimit := limit }) := ok.same rfl rfl rfl
    exact List.foldlRecOn _ _ limited fun t ok r _ => ok.discardRecord h r
  | claim => exact ok.same rfl rfl rfl
  | release => exact ok.same rfl rfl rfl
  | setConfig _ item => cases item <;> exact ok.posts (.of_ports rfl) (fun _ => .refl _) fun _ => .refl _
  | setQuota => exact ok.same rfl rfl rfl
  | start => exact (portsHold_rule inHand).startEngine ok
  | stop => exact (portsHold_rule inHand).stopped ok
  | setMap => exact ok.link (replaceEntry_touches ..) (replaceEntry_keepsSerials _ _ s)

/-- A command that waits is one of those handed on, and the others stay in their order. -/
theorem handed_split {p : Port} {c : CommandCode} {cmd : Handed} (waits : p.waitingCommand c = some cmd) :
    ∃ before after, p.handed = before ++ cmd :: after ∧
      (p.handed.eraseP fun x => x.code == c) = before ++ after := by
  obtain ⟨code, before, after, handed, others⟩ := List.find?_eq_some_iff_append.mp waits
  refine ⟨before, after, handed, ?_⟩
  rw [handed, List.eraseP_append_right _ fun b here => by simpa using others b here, 
    List.eraseP_cons_of_pos (p := fun x : Handed => x.code == c) code]

theorem handed_of_waitingCommand {p : Port} {c : CommandCode} {cmd : Handed}
    (waits : p.waitingCommand c = some cmd) : cmd ∈ p.handed := by
  obtain ⟨before, after, handed, -⟩ := handed_split waits
  simp [handed]

/-- The block has in hand the command that it has taken. -/
theorem PortsHold.taken {s : State} (ok : PortsHold noneInHand s) {h : HostId} {c : CommandCode} {cmd : Handed}
    (waits : (s.port h).waitingCommand c = some cmd) :
    PortsHold (oneInHand h cmd.serial) (Safety.taken s h c) := by
  obtain ⟨before, after, handed, left⟩ := handed_split waits
  refine ok.setPort h (fun g other => oneInHand_other other _) ?_
  have form : PortForm { s.port h with handed := (s.port h).handed.eraseP fun x => x.code == c }
      (noneInHand h ++ openSerials s h) :=
    (ok h).congr rfl rfl rfl rfl (fun x here => ⟨x, List.mem_of_mem_eraseP here, rfl, rfl⟩) fun _ => ⟨rfl, rfl⟩
  refine form.fewer (List.Perm.subperm (List.perm_iff_count.mpr fun n => ?_))
  rw [oneInHand_self, openSerials_eq, left, handed]
  simp only [noneInHand, List.map_append, List.map_cons, List.count_append, List.count_cons, List.count_nil,
    List.nil_append]
  omega

/-- The answer to the command in hand sets out. -/
theorem PortsHold.answering {s : State} {h : HostId} {cmd : Handed}
    (ok : PortsHold (oneInHand h cmd.serial) s) (status : Status) (results : List Byte) :
    PortsHold noneInHand (Safety.answering h cmd status results s) := by
  refine ok.setPort h (fun g other => (oneInHand_other other _).symm) ?_
  have form := (ok h).congr (q := { s.port h with
      answers := (s.port h).answers ++
        [{ serial := cmd.serial, response := { status := status, results := results }, left := cmd.left }] })
    rfl rfl rfl rfl (PortForm.same_handed rfl) fun _ => ⟨rfl, rfl⟩
  refine form.fewer (List.Perm.subperm (List.perm_iff_count.mpr fun n => ?_))
  rw [oneInHand_self, openSerials_eq]
  simp only [noneInHand, List.map_append, List.map_cons, List.map_nil, List.count_append, List.count_cons,
    List.count_nil, List.nil_append]
  omega

/-- A STOP waits for the frame in flight: its serial number stays open (R169). -/
theorem PortsHold.stopWaits {s : State} {h : HostId} {n : Nat} (ok : PortsHold (oneInHand h n) s) :
    PortsHold noneInHand
      { abandonNext s with engine.state := .stopping, engine.stopWaiting := some (h, n) } := by
  have left := (portsHold_rule _).abandonNext ok
  refine left.fewer rfl fun g => ?_
  rw [openSerials_eq, openSerials_eq]
  have waits : stopSerials
      { abandonNext s with engine.state := .stopping, engine.stopWaiting := some (h, n) } g = oneInHand h n g := by
    by_cases same : g = h
    · subst same
      simp [stopSerials, oneInHand]
    · simp [stopSerials, oneInHand, same, Ne.symm same]
  rw [waits]
  refine List.Subperm.trans (List.Perm.subperm (List.perm_append_comm (l₂ := oneInHand h n g))) ?_
  exact ((List.Sublist.refl _).append (List.sublist_append_left ..)).subperm

/-- A direct command is taken up, or waits in the place of other work (R124). -/
theorem PortsHold.direct {s : State} {h : HostId} {n : Nat} (ok : PortsHold (oneInHand h n) s) (op : DirectOp) :
    PortsHold noneInHand (handDirect { port := h, serial := n, op := op } (op.forget s)) := by
  have forgot : PortsHold (oneInHand h n) (op.forget s) := ok.link (forget_touches op s) (forget_keepsSerials op s)
  generalize op.forget s = s at forgot ⊢
  have one (g : HostId) : (if h = g then [n] else []) = oneInHand h n g := by
    by_cases same : g = h
    · subst same
      simp [oneInHand]
    · simp [oneInHand, same, Ne.symm same]
  have joins {t : State} (ports : t.ports = s.ports) (stop : t.engine.stopWaiting = s.engine.stopWaiting)
      (link : ∀ g, (linkSerials t g).Subperm (oneInHand h n g ++ linkSerials s g)) : PortsHold noneInHand t := by
    refine forgot.fewer ports fun g => List.subperm_ext_iff.mpr fun m _ => ?_
    have count := (link g).count_le m
    have port : t.port g = s.port g := by
      rw [State.port, ports]
      rfl
    rw [openSerials_eq, openSerials_eq, port, stopSerials_of_engine stop]
    simp only [noneInHand, List.nil_append, List.count_append] at count ⊢
    omega
  unfold handDirect
  split
  · rename_i idle
    refine joins rfl rfl fun g => ?_
    rw [linkSerials_eq s, idle, ← one]
    exact .refl _
  · refine joins rfl rfl fun g => ?_
    rw [linkSerials_eq s, ← one]
    refine List.Subperm.trans (List.perm_append_comm.subperm) ?_
    exact ((List.Sublist.refl _).append (List.sublist_append_left ..)).subperm

/-- The port's bookkeeping once a block has taken a command and answered it, or keeps it. -/
theorem PortsHold.took {c : CommandCode} {h : HostId} {s t : State} (took : Took c h s t)
    (ok : PortsHold noneInHand s) : PortsHold noneInHand t := by
  rcases took with rfl | ⟨cmd, r, waits, replies, rfl⟩
  · exact ok
  have here := handed_of_waitingCommand waits
  have fresh (isFresh : cmd.stale = false) : (s.port h).detaching = none := by
    rw [← Option.not_isSome_iff_eq_none]
    intro detaching
    rw [(ok h).overtaken detaching cmd here] at isFresh
    cases isFresh
  have inHand := ok.taken waits
  have port : (Safety.taken s h c).port h =
      { s.port h with handed := (s.port h).handed.eraseP fun x => x.code == c } := by
    rw [taken_port, if_pos rfl]
  cases replies with
  | answered a effect => exact PortsHold.answering (inHand.effect effect fun isFresh => by rw [port]; exact fresh isFresh) _ _
  | stop => exact inHand.stopWaits
  | direct op => exact inHand.direct op
  | detach _ isFresh =>
    have form := inHand h
    rw [oneInHand_self, List.singleton_append] at form
    refine inHand.setPort h (fun g other => (oneInHand_other other _).symm) ?_
    have apart := List.nodup_cons.mp form.distinct
    have others := form.fewer (List.sublist_cons_self ..).subperm
    have first := others.detach (some cmd.serial) fun n same => by
      cases same
      exact ⟨by rw [port]; exact (ok h).awaited cmd here isFresh, form.numbered _ List.mem_cons_self, apart.1⟩
    refine first.fewer (List.Perm.subperm ?_)
    rw [openSerials_eq]
    simp only [noneInHand, List.nil_append, List.map_map, Function.comp_def]
    exact .refl _

/-! ### The happenings -/

theorem PortsHold.stepped {inHand : HostId → List Nat} {s : State} (ok : PortsHold inHand s) {h : HostId} {d : Detach}
    (busy : (s.port h).detaching = some d) (next : DetachStep) : PortsHold inHand (Proofs.stepped s h d next) :=
  ok.setPort_same h rfl rfl fun _ form =>
    form.congr rfl rfl (by rw [busy]; rfl) rfl (PortForm.same_handed rfl) fun _ => ⟨rfl, rfl⟩

theorem portsHold_reset : PortsHold noneInHand State.reset := (portsOk_iff _).mp portsOk_reset

theorem PortsHold.tick {s : State} (ok : PortsHold noneInHand s) : PortsHold noneInHand (tick s) := fun h => by
  have port : (Machine.tick s).port h = (s.port h).tick := by cases h <;> rfl
  have direct (l : LinkState) : stateSerials l.tick h = stateSerials l h := by cases l <;> rfl
  have serials : openSerials (Machine.tick s) h = openSerials s h := by
    rw [openSerials_eq, openSerials_eq, port, linkSerials_eq, linkSerials_eq, stopSerials_of_engine (s := s) rfl]
    change _ ++ _ ++ (stateSerials s.link.state.tick h ++ _) ++ _ = _
    rw [direct]
    simp only [Port.tick, List.map_map, Function.comp_def]
    rfl
  rw [serials, port]
  refine (ok h).congr rfl rfl (by simp [Port.tick]) rfl (fun c here => ?_) fun _ => ⟨rfl, rfl⟩
  obtain ⟨b, old, rfl⟩ := List.mem_map.mp here
  exact ⟨b, old, rfl, rfl⟩

/-- A port that takes a frame waits for the answer to it, and nobody else's. -/
theorem PortForm.taking {p : Port} {serials : List Nat} (form : PortForm p serials)
    (free : p.buffer.isPending = false) : PortForm (Proofs.taking p) serials ∧ p.nextSerial ∉ serials := by
  obtain ⟨overtaken, none⟩ := form.no_fresh free
  exact ⟨form.rebuffer overtaken rfl none rfl (Nat.le_succ _) rfl rfl,
    fun here => (form.numbered _ here).false⟩

theorem PortsHold.takeFrame {s : State} (ok : PortsHold noneInHand s) (h : HostId) (frame : List Byte)
    (free : (s.port h).buffer.isPending = false) :
    PortsHold noneInHand (checkFrame h (s.port h).nextSerial frame (s.setPort h (Proofs.taking (s.port h)))) := by
  obtain ⟨-, none⟩ := (ok h).no_fresh free
  obtain ⟨form, new⟩ := (ok h).taking free
  have waits : PortForm (Proofs.taking (s.port h)) ((s.port h).nextSerial :: openSerials s h) :=
    form.more new (Nat.lt_succ_self _) fun detaching => by
      rw [show (Proofs.taking (s.port h)).detaching = _ from none] at detaching
      cases detaching
  have perm {p : Port}
      (serials : (p.handed.map (·.serial) ++ p.answers.map (·.serial)).Perm
        ((s.port h).nextSerial :: ((s.port h).handed.map (·.serial) ++ (s.port h).answers.map (·.serial)))) :
      (noneInHand h ++ (p.handed.map (·.serial) ++ p.answers.map (·.serial) ++ linkSerials s h ++
        stopSerials s h)).Subperm ((s.port h).nextSerial :: openSerials s h) :=
    ((serials.append_right _).append_right _).subperm
  rcases checkFrame_cases h (s.port h).nextSerial frame (s.setPort h (Proofs.taking (s.port h))) with
    ⟨r, answered⟩ | ⟨c, args, -, handed⟩
  · rw [answered, sendAnswer, State.setPort_port_self, State.setPort_setPort]
    refine ok.setPort h (fun _ _ => rfl) (PortForm.fewer ?_ (perm ?_))
    · exact waits.congr rfl rfl rfl rfl (PortForm.same_handed rfl) fun _ => ⟨rfl, rfl⟩
    · simp only [Proofs.taking, List.map_append, List.map_cons, List.map_nil, ← List.append_assoc]
      exact List.perm_append_singleton ..
  · rw [handed, handOn_eq, State.setPort_port_self, State.setPort_setPort]
    refine PortsHold.same (ok.setPort h (fun _ _ => rfl) (PortForm.fewer (serials := _) ?_ (perm ?_))) rfl rfl rfl
    · refine
        { distinct := waits.distinct, numbered := waits.numbered, awaited := fun b here fresh => ?_
          attachedOrDetaching := fun _ => none
          overtaken := fun detaching => ?_, held := fun detaching => ?_, quiet := waits.quiet }
      · rw [List.mem_append, List.mem_singleton] at here
        rcases here with old | rfl
        · rw [((ok h).no_fresh free).1 b old] at fresh
          cases fresh
        · rfl
      all_goals
        rw [show (Proofs.taking (s.port h)).detaching = _ from none] at detaching
        cases detaching
    · simp only [Proofs.taking, List.map_append, List.map_cons, List.map_nil, List.append_assoc]
      exact List.perm_middle

theorem PortsHold.responseTaken {s : State} (ok : PortsHold noneInHand s) (h : HostId) (stage : Option Transfer)
    (out : List Byte) :
    PortsHold noneInHand
      (s.setPort h { (s.port h).responseTaken with select := stage, shiftedOut := out }) := by
  unfold Port.responseTaken
  split
  · rename_i ready
    have free : (s.port h).buffer.isPending = false := by
      cases buffer : (s.port h).buffer <;> rw [buffer] at ready <;> cases ready
      rfl
    obtain ⟨overtaken, none⟩ := (ok h).no_fresh free
    exact ok.setPort h (fun _ _ => rfl) ((ok h).rebuffer overtaken rfl none rfl (le_refl _) rfl rfl)
  · exact ok.setPort_same h rfl rfl fun _ form => form.transfer _ _ _

theorem PortsHold.answer {s : State} (ok : PortsHold noneInHand s) (h : HostId) {a : AnswerInTransit}
    {rest : List AnswerInTransit} (oldest : (s.port h).answers = a :: rest) :
    PortsHold noneInHand
      (deliverAnswer h a.serial a.response (s.setPort h { s.port h with answers := rest })) := by
  have delivered := ok.deliver h (n := a.serial) (by simp [oldest]) a.response
  have commutes : deliverAnswer h a.serial a.response (s.setPort h { s.port h with answers := rest }) =
      (deliverAnswer h a.serial a.response s).setPort h
        { (deliverAnswer h a.serial a.response s).port h with answers := rest } := by
    simp only [deliverAnswer_eq, State.setPort_port_self, State.setPort_setPort]
  rw [commutes]
  generalize arrived : deliverAnswer h a.serial a.response s = t at delivered ⊢
  have answers : (t.port h).answers = a :: rest := by
    rw [← arrived, deliverAnswer_eq, State.setPort_port_self]
    exact oldest
  refine delivered.setPort h (fun _ _ => rfl) ?_
  have form := (delivered h).congr (q := { t.port h with answers := rest }) rfl rfl rfl rfl
    (PortForm.same_handed rfl) fun _ => ⟨rfl, rfl⟩
  refine form.fewer (List.Sublist.subperm ?_)
  rw [openSerials_eq, answers]
  exact (((((List.Sublist.refl _).append (List.sublist_cons_self ..)).append_right _).append_right _).append_left _)

theorem PortsHold.detachClaim {s : State} (ok : PortsHold noneInHand s) {h : HostId} {d : Detach}
    (busy : (s.port h).detaching = some d) (buffer : Buffer) :
    PortsHold noneInHand
      (freeClaim h (s.setPort h { s.port h with detaching := none, discarded := false, buffer := buffer })) := by
  have overtaken := (ok h).overtaken (by rw [busy]; rfl)
  have ended : PortsHold noneInHand
      (s.setPort h { s.port h with detaching := none, discarded := false, buffer := buffer }) :=
    ok.setPort h (fun _ _ => rfl) ((ok h).rebuffer overtaken rfl rfl rfl (le_refl _) rfl rfl)
  rw [freeClaim_eq]
  exact ended.same rfl rfl rfl

theorem PortsHold.directDone {s : State} (ok : PortsHold noneInHand s) {w : DirectWork}
    (working : s.link.state = .direct w) (r : Response) : PortsHold noneInHand (finishDirect w r s) := by
  have delivered := ok.deliver w.command.port (n := w.command.serial)
    (by simp [linkSerials_eq, stateSerials, working]) r
  rw [finishDirect_eq]
  exact delivered.link (linkIdle_touches _) (linkIdle_keepsSerials _)

theorem PortsHold.pulse {s : State} (ok : PortsHold noneInHand s) (h : HostId) :
    PortsHold noneInHand (portDetach h none (s.setPort h (pulsed (s.port h)))) := by
  have low : PortsHold noneInHand (s.setPort h (pulsed (s.port h))) :=
    ok.setPort_same h rfl rfl fun _ form => form.transfer _ _ _
  generalize s.setPort h (pulsed (s.port h)) = s at low ⊢
  refine low.setPort h (fun _ _ => rfl) (((low h).detach none nofun).fewer (List.Perm.subperm ?_))
  rw [openSerials_eq]
  simp only [List.map_map, Function.comp_def]
  exact .refl _

theorem PortsHold.happening {s t : State} (happened : Happening s t) (ok : PortsHold noneInHand s) :
    PortsHold noneInHand t := by
  have rule := portsHold_rule noneInHand
  cases happened with
  | nothing => exact ok
  | powerOn => exact portsHold_reset.same rfl rfl rfl
  | resetRelease => exact ok.same rfl rfl rfl
  | pulse h => exact ok.pulse h
  | pulseAgain h busy =>
    exact ok.setPort_same h rfl rfl fun _ form =>
      form.congr rfl rfl (by rw [busy]; rfl) rfl (PortForm.same_handed rfl) fun _ => ⟨rfl, rfl⟩
  | hrstRelease h => exact ok.setPort_same h rfl rfl fun _ form => form.transfer _ _ _
  | transfer h touches =>
    rw [touches]
    exact ok.setPort_same h rfl rfl fun _ form => form.transfer _ _ _
  | discard h =>
    exact ok.setPort_same h rfl rfl fun _ form =>
      form.congr rfl rfl rfl rfl (PortForm.same_handed rfl) fun _ => ⟨rfl, rfl⟩
  | takeFrame h frame free => exact ok.takeFrame h frame free
  | responseTaken h stage out => exact ok.responseTaken h stage out
  | answer h oldest => exact ok.answer h oldest
  | detachRequests h busy =>
    exact (ok.stepped busy .profiles).tables (freeRequestsOf_posts ..) (freeRequestsOf_touches ..)
  | detachProfiles h busy =>
    exact (ok.stepped busy .records).tables (.foldl _ _ _ (detachProfile_posts h)) (detachProfiles_touches ..)
  | detachRecords h busy => exact (ok.stepped busy .direct).same rfl rfl rfl
  | detachDirect h busy =>
    exact (ok.stepped busy .claim).link (detachDirect_touches ..) (detachDirect_keepsSerials h _)
  | detachClaim h busy => exact ok.detachClaim busy _
  | claimExpiry =>
    have freed : PortsHold noneInHand { s with engine.claim := none } := ok.same rfl rfl rfl
    exact freed.tables (postNotice_posts ..) (postNotice_touches ..)
  | holdTimeout h => exact ok.discardRecord h _
  | buildAgain => exact ok.same rfl rfl rfl
  | buildReady => exact ok.tables (buildReady_posts ..) (buildReady_touches ..)
  | slotStart => exact rule.slotStart ok
  | exposureExpiry => exact rule.setupPointIfDue (ok.same rfl rfl rfl)
  | frameStart => exact rule.frameStarted _ ok
  | frameStartIgnored => exact rule.frameStartIgnored ok
  | line => exact ok.same rfl rfl rfl
  | frameEnd => exact rule.frameEnded _ ok
  | setupBegin working => exact ok.link rfl (setupWork_keepsSerials _)
  | directAgain working =>
    refine ok.link rfl (keepsSerials_of_parts (fun g => ?_) fun _ => .refl _)
    rw [working]
    exact .refl _
  | writeAcknowledged => exact ok.link (writeAcknowledged_touches ..) (writeAcknowledged_keepsSerials _ _ _ s)
  | writeRefused => exact ok.link (writeRefused_touches ..) (writeRefused_keepsSerials _ _ s)
  | drainEnd => exact ok.link (drainEnd_touches ..) (drainEnd_keepsSerials _ _ s)
  | directDone working => exact ok.directDone working _

/-- Every step keeps every port's bookkeeping. -/
theorem step_keeps_portsOk {s t : State} (falls : step s = .next t) (ok : PortsOk s) : PortsOk t := by
  rw [portsOk_iff] at ok ⊢
  exact keeps_of_cases (fun s q ok => ok.same rfl rfl rfl) (fun s ok => ok.tick)
    (fun c h s t took ok => ok.took took) (fun s t happened ok => ok.happening happened) falls ok

end Sys2Proof.Proofs

/-! What a detach has taken from a host stays away from it (R149). -/

namespace Sys2Proof.Proofs

open Sys2Proof.Machine Sys2Proof.Safety

/-! ### A host without requests stays so -/

theorem noRequest_iff {s : State} {g : HostId} : noRequest s g ↔ ∀ r ∈ s.requests.table, r.owner ≠ g := by
  simp [noRequest, State.requestsOf, List.filter_eq_nil_iff]

/-- Every owner of a request was one before. -/
theorem noRequest_of_owners {s t : State} {g : HostId} (bare : noRequest s g)
    (owners : ∀ r ∈ t.requests.table, ∃ q ∈ s.requests.table, q.owner = r.owner) : noRequest t g :=
  noRequest_iff.mpr fun r here => by
    obtain ⟨q, old, same⟩ := owners r here
    exact same ▸ noRequest_iff.mp bare q old

theorem noRequest_updateRequest {s : State} {g : HostId} (bare : noRequest s g) (h : HostId) (tag : Nat)
    {f : Request → Request} (kept : ∀ q, q.owner = h → (f q).owner = h) : noRequest (s.updateRequest h tag f) g :=
  noRequest_of_owners bare fun r here => by
    obtain ⟨q, old, rfl⟩ := List.mem_map.mp here
    refine ⟨q, old, ?_⟩
    split
    · obtain ⟨owner, -⟩ := named_iff.mp ‹_›
      rw [kept q owner, owner]
    · rfl

theorem noRequest_rule (g : HostId) : TableRule fun s => noRequest s g where
  same bare same := noRequest_of_table bare (by rw [same.requests])
  acknowledge s h tag bare := noRequest_updateRequest bare h tag fun _ owner => owner
  charge s h tag r found bare := noRequest_updateRequest bare h tag fun _ _ => (request_named found).1
  suspend s r _ bare :=
    noRequest_of_table (s := s.updateRequest r.owner r.tag fun q => { q with state := .suspended })
      (noRequest_updateRequest bare _ _ fun _ owner => owner) (suspend_table r s)
  count s h tag r count done _ _ _ bare := noRequest_updateRequest bare h tag fun _ owner => owner
  leave s r _ bare := noRequest_of_owners bare fun q here => by
    rw [left_table] at here
    exact ⟨q, List.mem_of_mem_filter here, rfl⟩
  judged s id p e m mode _ _ _ bare := bare
  trigger s bare := noRequest_of_table bare (by rw [trigger_requests])
  swap s sh _ bare :=
    swap_induction (P := fun s => noRequest s g) (fun bare same => noRequest_of_table bare (by rw [same.requests]))
      (fun _ bare => bare) (fun h tag _ bare => noRequest_updateRequest bare h tag fun _ owner => owner)
      (fun id bare => noRequest_of_table bare (by rw [abortTune_requests])) sh bare

/-! ### A host without LIVE profiles stays so -/

theorem noProfile_of_profiles {s t : State} {g : HostId} (bare : noProfile s g) (same : t.profiles = s.profiles) :
    noProfile t g := fun id p held => bare id p (by rwa [State.profile, same] at held)

theorem noProfile_setProfile {s : State} {g : HostId} (bare : noProfile s g) (id : Fin 16) {q : Option Profile}
    (others : ∀ p, q = some p → p.life ≠ .live g) : noProfile (s.setProfile id q) g := fun j p held => by
  rw [State.setProfile_profile] at held
  split at held
  · exact others p held
  · exact bare j p held

theorem noProfile_abortTune {s : State} {g : HostId} (bare : noProfile s g) (id : Fin 16) :
    noProfile (abortTune id s) g := by
  rcases SameTables.abortTune_cases id s with ⟨same, -⟩ | ⟨p, loop, held, -, -, same⟩
  · exact noProfile_of_profiles bare same.profiles
  · refine noProfile_of_profiles (noProfile_setProfile bare id fun q new => ?_) same.profiles
    cases new
    exact bare id p held

theorem noProfile_tellLeft {s : State} {g : HostId} (bare : noProfile s g) (r : Request) :
    noProfile (tellLeft r s) g := by
  unfold tellLeft
  split
  · exact noProfile_abortTune bare _
  · exact bare

theorem noProfile_lowerReference {s : State} {g : HostId} (bare : noProfile s g) (id : Fin 16) :
    noProfile (lowerReference id s) g := by
  cases held : s.profile id with
  | none => simpa [lowerReference, held] using bare
  | some p =>
    rw [lowerReference_eq held]
    refine noProfile_setProfile bare id fun q new => ?_
    split at new <;> cases new
    exact bare id p held

theorem noProfile_freeEntry {s : State} {g : HostId} (bare : noProfile s g) (r : Request) :
    noProfile (freeEntry r s) g := by
  refine noProfile_lowerReference ?_ _
  have left : noProfile (leaveCalendar r s) g := noProfile_of_profiles bare (by rw [leaveCalendar_eq])
  exact noProfile_of_profiles left rfl

theorem noProfile_rule (g : HostId) : TableRule fun s => noProfile s g where
  same bare same := noProfile_of_profiles bare same.profiles
  acknowledge _ _ _ bare := bare
  charge _ _ _ _ _ bare := bare
  suspend s r _ bare := by
    refine noProfile_tellLeft (noProfile_of_profiles ?_ (SameTables.postNotice ..).profiles) r
    have left : noProfile (leaveCalendar r s) g := noProfile_of_profiles bare (by rw [leaveCalendar_eq])
    exact left
  count _ _ _ _ _ _ _ _ _ bare := bare
  leave s r _ bare := noProfile_tellLeft (noProfile_freeEntry bare r) r
  judged s id p e m mode held _ _ bare := noProfile_setProfile bare id fun q new => by
    cases new
    exact bare id p held
  trigger s bare := noProfile_of_profiles bare (by rw [trigger_eq])
  swap s sh _ bare :=
    swap_induction (P := fun s => noProfile s g) (fun bare same => noProfile_of_profiles bare same.profiles)
      (fun _ bare => bare) (fun _ _ _ bare => bare) (fun id bare => noProfile_abortTune bare id) sh bare

/-- Two forms that the moves of the tables keep are kept together. -/
theorem TableRule.and {P Q : State → Prop} (first : TableRule P) (second : TableRule Q) :
    TableRule fun s => P s ∧ Q s where
  same := fun ⟨p, q⟩ same => ⟨first.same p same, second.same q same⟩
  acknowledge s h tag := fun ⟨p, q⟩ => ⟨first.acknowledge s h tag p, second.acknowledge s h tag q⟩
  charge s h tag r found := fun ⟨p, q⟩ => ⟨first.charge s h tag r found p, second.charge s h tag r found q⟩
  suspend s r found := fun ⟨p, q⟩ => ⟨first.suspend s r found p, second.suspend s r found q⟩
  count s h tag r count done found burst ne := fun ⟨p, q⟩ =>
    ⟨first.count s h tag r count done found burst ne p, second.count s h tag r count done found burst ne q⟩
  leave s r found := fun ⟨p, q⟩ => ⟨first.leave s r found p, second.leave s r found q⟩
  judged s id pr e m mode held goes stays := fun ⟨p, q⟩ =>
    ⟨first.judged s id pr e m mode held goes stays p, second.judged s id pr e m mode held goes stays q⟩
  trigger s := fun ⟨p, q⟩ => ⟨first.trigger s p, second.trigger s q⟩
  swap s sh ready := fun ⟨p, q⟩ => ⟨first.swap s sh ready p, second.swap s sh ready q⟩

/-! ### What a host keeps of a change -/

/-- The step of a detach that comes next at a port, if one is under way. -/
def stage (s : State) (g : HostId) : Option DetachStep := (s.port g).detaching.map (·.next)

/-- A change leaves a host without what it is without, at the same stage of its detach. -/
structure KeepsBare (g : HostId) (s t : State) : Prop where
  attached : (t.port g).attached = (s.port g).attached
  stage : stage t g = stage s g
  requests : noRequest s g → noRequest t g
  profiles : noProfile s g → noProfile t g
  records : noRequest s g → noRecord s g → noRecord t g
  claim : noClaim s g → noClaim t g

/-- What a DETACHED host is without, by the step of its detach that comes next (R149). -/
def Emptied (s : State) (g : HostId) : Option DetachStep → Prop
  | none => noRequest s g ∧ noProfile s g ∧ noRecord s g ∧ noClaim s g
  | some .requests => True
  | some .profiles => noRequest s g
  | some .records => noRequest s g ∧ noProfile s g
  | some .direct => noRequest s g ∧ noProfile s g ∧ noRecord s g
  | some .claim => noRequest s g ∧ noProfile s g ∧ noRecord s g

theorem holdingsOk_iff (s : State) (g : HostId) :
    HoldingsOk s g ↔ ((s.port g).attached = false → Emptied s g (stage s g)) := by
  unfold HoldingsOk stage
  cases (s.port g).detaching with
  | none => exact Iff.rfl
  | some d => cases next : d.next <;> simp only [Option.map_some, next, Emptied]

namespace KeepsBare

variable {g : HostId} {s t u : State}

theorem emptied (keeps : KeepsBare g s t) {at' : Option DetachStep} (empty : Emptied s g at') : Emptied t g at' := by
  match at', empty with
  | none, ⟨requests, profiles, records, claim⟩ =>
    exact ⟨keeps.requests requests, keeps.profiles profiles, keeps.records requests records, keeps.claim claim⟩
  | some .requests, _ => exact trivial
  | some .profiles, requests => exact keeps.requests requests
  | some .records, ⟨requests, profiles⟩ => exact ⟨keeps.requests requests, keeps.profiles profiles⟩
  | some .direct, ⟨requests, profiles, records⟩ =>
    exact ⟨keeps.requests requests, keeps.profiles profiles, keeps.records requests records⟩
  | some .claim, ⟨requests, profiles, records⟩ =>
    exact ⟨keeps.requests requests, keeps.profiles profiles, keeps.records requests records⟩

theorem holdings (keeps : KeepsBare g s t) (ok : HoldingsOk s g) : HoldingsOk t g := by
  rw [holdingsOk_iff] at ok ⊢
  rw [keeps.attached, keeps.stage]
  exact fun off => keeps.emptied (ok off)

theorem refl (g : HostId) (s : State) : KeepsBare g s s := ⟨rfl, rfl, id, id, fun _ => id, id⟩

theorem trans (a : KeepsBare g s t) (b : KeepsBare g t u) : KeepsBare g s u where
  attached := b.attached.trans a.attached
  stage := b.stage.trans a.stage
  requests bare := b.requests (a.requests bare)
  profiles bare := b.profiles (a.profiles bare)
  records requests bare := b.records (a.requests requests) (a.records requests bare)
  claim bare := b.claim (a.claim bare)

/-- A change of the ports, the tables, Delivery and the claim that leaves those of the host. -/
theorem of_parts (attached : (t.port g).attached = (s.port g).attached) (stage : Proofs.stage t g = Proofs.stage s g)
    (requests : t.requests = s.requests) (profiles : t.profiles = s.profiles)
    (mailbox : t.mailbox g = s.mailbox g) (claim : noClaim s g → noClaim t g) : KeepsBare g s t where
  attached := attached
  stage := stage
  requests bare := noRequest_of_table bare (by rw [requests])
  profiles bare := noProfile_of_profiles bare profiles
  records _ bare := by rw [noRecord, mailbox]; exact bare
  claim := claim

theorem noClaim_of_claim (same : t.engine.claim = s.engine.claim) (bare : noClaim s g) : noClaim t g := by
  rw [noClaim, State.holdsClaim, same]
  exact bare

/-- A change of other things than ports, tables, Delivery and the claim. -/
theorem same (ports : t.ports = s.ports) (requests : t.requests = s.requests) (profiles : t.profiles = s.profiles)
    (boxes : t.delivery.boxes = s.delivery.boxes) (claim : t.engine.claim = s.engine.claim) : KeepsBare g s t := by
  have port : t.port g = s.port g := by
    rw [State.port, ports]
    rfl
  refine of_parts (by rw [port]) (by rw [Proofs.stage, port]; rfl) requests profiles ?_ (noClaim_of_claim claim)
  rw [State.mailbox, boxes]
  rfl

theorem setPort {h : HostId} {p : Port} (attached : p.attached = (s.port h).attached)
    (next : p.detaching.map (·.next) = (s.port h).detaching.map (·.next)) : KeepsBare g s (s.setPort h p) := by
  refine of_parts ?_ ?_ rfl rfl rfl id
  · rw [State.setPort_port]
    split
    · rename_i same
      exact same ▸ attached
    · rfl
  · rw [Proofs.stage, State.setPort_port]
    split
    · rename_i same
      exact same ▸ next
    · rfl

theorem setPort_other {h : HostId} (other : g ≠ h) (p : Port) : KeepsBare g s (s.setPort h p) := by
  refine of_parts ?_ ?_ rfl rfl rfl id
  · rw [State.setPort_port, if_neg other]
  · rw [Proofs.stage, State.setPort_port, if_neg other]
    rfl

theorem setMailbox_other {h : HostId} (other : g ≠ h) (m : Mailbox) : KeepsBare g s (s.setMailbox h m) :=
  of_parts rfl rfl rfl rfl (by rw [State.setMailbox_mailbox, if_neg other]) id

theorem link (touches : TouchesLink s t) : KeepsBare g s t := by
  refine same ?_ ?_ ?_ ?_ ?_ <;> rw [touches]

/-- A move of the tables that tells notices. -/
theorem tables (posts : Posts s t) (touches : TouchesTables s t) (requests : noRequest s g → noRequest t g)
    (profiles : noProfile s g → noProfile t g) : KeepsBare g s t := by
  obtain ⟨taken, port⟩ := posts.port g
  refine ⟨by rw [port], by rw [Proofs.stage, port]; rfl, requests, profiles, fun _ bare => ?_, ?_⟩
  · rw [noRecord, State.mailbox, touches]
    exact bare
  · exact noClaim_of_claim (by rw [touches])

theorem missReport (h : HostId) (tags : List Nat) : KeepsBare g s (missReport h tags s) :=
  tables (missReport_posts ..) (missReport_touches ..) ((noRequest_rule g).missReport h tags)
    ((noProfile_rule g).missReport h tags)

/-- A record of another host is discarded, or one of a host that has records. -/
theorem discardRecord {h : HostId} (other : g ≠ h) (r : Record) : KeepsBare g s (discardRecord h s r) :=
  (setMailbox_other other _).trans (missReport h r.tags)

theorem composeRecord (c : FrameContext) (outcome : FrameOutcome) (h : HostId) :
    KeepsBare g s (composeRecord c outcome s h) := by
  by_cases other : g = h
  · subst other
    have ports := (composeRecord_posts c outcome s g).port g
    obtain ⟨taken, port⟩ := ports
    refine ⟨by rw [port], by rw [Proofs.stage, port]; rfl, (noRequest_rule g).composeRecord c outcome g,
      (noProfile_rule g).composeRecord c outcome g, fun requests bare => ?_,
      noClaim_of_claim (by rw [composeRecord_touches])⟩
    have none : servedTags s g c.subscribers = [] := by
      have absent (p : Subscriber) : s.request g p.tag = none :=
        request_eq_none.mpr fun r here named => noRequest_iff.mp requests r here named.1
      simp [servedTags, absent]
    rw [Machine.composeRecord, none]
    exact bare
  · unfold Machine.composeRecord
    split
    · exact refl g s
    · unfold offerRecord
      dsimp only
      split
      · exact setMailbox_other other _
      · exact (setMailbox_other other _).trans (missReport h _)

end KeepsBare

/-- The Frame Sequencer's work leaves a host without what it is without. -/
theorem keepsBare_rule (g : HostId) (s : State) : FrameRule (KeepsBare g s) where
  apart keeps apart := keeps.trans (.same (by rw [apart]) (by rw [apart]) (by rw [apart]) (by rw [apart]) (by rw [apart]))
  link keeps touches _ := keeps.trans (.link touches)
  post n t keeps :=
    keeps.trans (.tables (postToAll_posts n t) (postToAll_touches n t) ((noRequest_rule g).frameRule.post n t)
      ((noProfile_rule g).frameRule.post n t))
  compose c outcome t h _ keeps := keeps.trans (.composeRecord c outcome h)
  judge c outcome t keeps :=
    keeps.trans (.tables (judgeFrame_posts c outcome t) (judgeFrame_touches c outcome t)
      ((noRequest_rule g).judgeFrame c outcome) ((noProfile_rule g).judgeFrame c outcome))
  occasions c outcome t keeps :=
    keeps.trans (.tables (countOccasions_posts c outcome t) (countOccasions_touches c outcome t)
      ((noRequest_rule g).countOccasions c outcome) ((noProfile_rule g).countOccasions c outcome))
  swap sh t ready keeps :=
    keeps.trans (.tables (swap_posts sh t) (swap_touches sh t) ((noRequest_rule g).swap t sh ready)
      ((noProfile_rule g).swap t sh ready))
  answerStop t keeps := by
    rcases answerStop_cases t with same | ⟨h, buffer, answered⟩
    · rwa [same]
    · rw [answered]
      have waits : KeepsBare g t { t with engine := { t.engine with stopWaiting := none } } := .same rfl rfl rfl rfl rfl
      have delivered : KeepsBare g { t with engine := { t.engine with stopWaiting := none } }
          ({ t with engine := { t.engine with stopWaiting := none } }.setPort h { t.port h with buffer := buffer }) :=
        .setPort (by rfl) (by rfl)
      exact (keeps.trans waits).trans delivered

end Sys2Proof.Proofs

/-! Every step keeps the tables in agreement (O58). -/

namespace Sys2Proof.Proofs

open Sys2Proof.Machine Sys2Proof.Safety

/-! ### The commands -/

/-- A host that is ATTACHED is without nothing. -/
theorem holdingsOk_of_attached {s : State} {g : HostId} (attached : (s.port g).attached = true) : HoldingsOk s g :=
  fun off => by
    rw [attached] at off
    cases off

theorem KeepsBare.giveClaim_other {g h : HostId} (other : g ≠ h) (s : State) : KeepsBare g s (giveClaim h s) :=
  .of_parts rfl rfl rfl rfl rfl fun _ => by simp [noClaim, State.holdsClaim, giveClaim, Ne.symm other]

theorem KeepsBare.setItem_other {g h : HostId} (other : g ≠ h) (s : State) (item : ConfigItem) :
    KeepsBare g s (setItem h s item) := by
  cases item with
  | claimExpiry v =>
    have expiry : KeepsBare g s { s with engine.claimExpiry := v } := .same rfl rfl rfl rfl rfl
    exact expiry.trans (.giveClaim_other other _)
  | _ => exact .same rfl rfl rfl rfl rfl

/-- An ATTACHED host's own command leaves it ATTACHED, and another host without what it is without. -/
theorem holdingsOk_own {g h : HostId} {s t : State} (ok : HoldingsOk s g) (attached : (t.port h).attached = true)
    (others : g ≠ h → KeepsBare g s t) : HoldingsOk t g := by
  by_cases other : g = h
  · exact holdingsOk_of_attached (other ▸ attached)
  · exact (others other).holdings ok

theorem noProfile_edit {g h : HostId} {s : State} (bare : noProfile s g) {id : Fin 16} {p : Profile}
    {q : Option Profile} (held : s.profile id = some p) (edit : Edit s h id p q) : noProfile (s.setProfile id q) g :=
  noProfile_setProfile bare id fun x new => by
    have life : x.life = p.life := by
      cases edit <;> cases new <;> rfl
    rw [life]
    exact bare id p held

theorem attached_of_posts {s t : State} (posts : Posts s t) (h : HostId) :
    (t.port h).attached = (s.port h).attached := by
  obtain ⟨taken, port⟩ := posts.port h
  rw [port]

theorem noProfile_admitRequest {g : HostId} {s : State} (bare : noProfile s g) (h : HostId) (a : SubmitArgs) :
    noProfile (admitRequest h a s) g := by
  refine (noProfile_rule g).trigger _ ?_
  unfold raiseReference
  split
  · exact bare
  · rename_i p held
    refine noProfile_setProfile bare _ fun q new => ?_
    cases new
    exact bare _ p held

theorem holdingsOk_effect {g h : HostId} {cmd : Handed} {s t : State} (effect : Effect h cmd s t)
    (ok : HoldingsOk s g) : HoldingsOk t g := by
  have rule := keepsBare_rule g s
  have same := KeepsBare.refl g s
  have moved {u : State} (keeps : KeepsBare g s u) : HoldingsOk u g := keeps.holdings ok
  cases effect with
  | nothing => exact ok
  | attach =>
    refine holdingsOk_own (h := h) ok ?_ fun other => ?_
    · change ((s.setPort h _).port h).attached = true
      rw [State.setPort_port_self]
    exact (KeepsBare.setPort_other other _).trans (.setMailbox_other other _)
  | getNotice attached =>
    exact moved (.setPort rfl rfl)
  | setAttention attached mask =>
    exact moved (.setPort rfl rfl)
  | @submit attached args a p read fresh held =>
    refine holdingsOk_own ok ((attached_of_posts (admitRequest_posts h a s) h).trans attached) fun other => ?_
    refine .tables (admitRequest_posts ..) (admitRequest_touches ..) (fun bare => ?_) fun bare => ?_
    · rw [noRequest_iff, admitRequest_table]
      intro r here
      rw [List.mem_append, List.mem_singleton] at here
      rcases here with old | rfl
      · exact noRequest_iff.mp bare r old
      · exact other.symm
    · exact noProfile_admitRequest bare h a
  | cancel found =>
    have here := request_self found
    exact (KeepsBare.tables (cancelled_posts ..) (cancelled_touches ..) ((noRequest_rule g).cancelled here)
      ((noProfile_rule g).cancelled here)).holdings ok
  | resume =>
    refine moved (.tables ((updateRequest_posts ..).trans (trigger_posts _))
      ((updateRequest_touches ..).trans (trigger_touches _)) (fun bare => (noRequest_rule g).trigger _ ?_)
      fun bare => (noProfile_rule g).trigger _ bare)
    exact noRequest_updateRequest bare _ _ fun _ owner => owner
  | createProfile attached =>
    refine holdingsOk_own ok attached fun other => ?_
    refine .tables (setProfile_posts ..) rfl id fun bare => noProfile_setProfile bare _ fun p new => ?_
    cases new
    exact fun life => other (by cases life; rfl)
  | edit held _ edit =>
    exact (KeepsBare.tables (setProfile_posts ..) rfl id fun bare => noProfile_edit bare held edit).holdings ok
  | rebuild =>
    exact (KeepsBare.tables (trigger_posts s) (trigger_touches s) ((noRequest_rule g).trigger s)
      ((noProfile_rule g).trigger s)).holdings ok
  | @ackRecord r rest head =>
    have reported {u : State} : KeepsBare g u (acknowledgementReport h r.tags u) :=
      .tables (acknowledgementReport_posts ..) (acknowledgementReport_touches ..)
        ((noRequest_rule g).acknowledgementReport h _) ((noProfile_rule g).acknowledgementReport h _)
    refine reported.holdings (KeepsBare.holdings (s := s) ?_ ok)
    by_cases other : g = h
    · subst other
      refine ⟨rfl, rfl, id, id, fun _ bare => ?_, id⟩
      rw [show s.mailbox g = _ from bare] at head
      cases head
    · exact .setMailbox_other other _
  | setHold attached limit =>
    refine holdingsOk_own ok ((attached_of_posts (setHold_posts ..) h).trans attached) fun other => ?_
    exact List.foldlRecOn _ _ (.setMailbox_other other _) fun t keeps r _ => keeps.trans (.discardRecord other r)
  | claim attached => exact holdingsOk_own ok attached fun other => .giveClaim_other other s
  | release => exact moved (.of_parts rfl rfl rfl rfl rfl fun _ => by rfl)
  | setConfig attached item =>
    refine holdingsOk_own ok ?_ fun other => .setItem_other other s item
    rw [State.port, setItem_ports]
    exact attached
  | setQuota => exact (KeepsBare.same rfl rfl rfl rfl rfl).holdings ok
  | start => exact (rule.startEngine same).holdings ok
  | stop => exact (rule.stopped same).holdings ok
  | setMap => exact (KeepsBare.link (replaceEntry_touches ..)).holdings ok

/-- A detach that begins has taken nothing yet. -/
theorem holdingsOk_portDetach {g h : HostId} {s : State} (answers : Option Nat) (ok : HoldingsOk s g) :
    HoldingsOk (portDetach h answers s) g := by
  by_cases other : g = h
  · subst other
    rw [holdingsOk_iff]
    intro _
    simp only [stage, portDetach, State.setPort_port_self, Option.map_some]
    exact trivial
  · exact (KeepsBare.setPort_other other _).holdings ok

theorem holdingsOk_took {g : HostId} (c : CommandCode) (h : HostId) (s t : State) (took : Took c h s t)
    (ok : HoldingsOk s g) : HoldingsOk t g := by
  refine keeps_took (P := fun s => HoldingsOk s g) (fun s h c => KeepsBare.holdings (.setPort rfl rfl))
    (fun s h cmd status results => KeepsBare.holdings (.setPort rfl rfl))
    (fun h cmd s t effect => holdingsOk_effect effect) (fun s h serial => holdingsOk_portDetach _)
    (fun s h serial f _ _ ok => ?_) (fun s c => (KeepsBare.link (direct_touches c s)).holdings) c h s t took ok
  have left := (keepsBare_rule g s).abandonNext (.refl g s)
  exact (left.trans (.same rfl rfl rfl rfl rfl)).holdings ok

/-! ### The happenings -/

/-- The steps of a detach that a port has come to. -/
theorem emptied_of_busy {s : State} {h : HostId} {d : Detach} (ports : PortsOk s) (ok : HoldingsOk s h)
    (busy : (s.port h).detaching = some d) : Emptied s h (some d.next) := by
  have off : (s.port h).attached = false := by
    by_contra on
    rw [(ports h).attachedOrDetaching (by simpa using on)] at busy
    cases busy
  have empty := (holdingsOk_iff s h).mp ok off
  rwa [stage, busy] at empty

/-- A port that has taken a step of its detach. -/
theorem holdingsOk_at {s : State} {g : HostId} {at' : Option DetachStep} (reached : stage s g = at')
    (empty : Emptied s g at') : HoldingsOk s g :=
  (holdingsOk_iff s g).mpr fun _ => reached ▸ empty

theorem stage_stepped (s : State) (h : HostId) (d : Detach) (next : DetachStep) :
    stage (stepped s h d next) h = some next := by
  rw [stage, stepped, State.setPort_port_self]
  rfl

theorem stage_of_posts {s t : State} (posts : Posts s t) (g : HostId) : stage t g = stage s g := by
  obtain ⟨taken, port⟩ := posts.port g
  rw [stage, port]
  rfl

/-- A detach leaves its host no request (R22). -/
theorem noRequest_freeRequestsOf {s : State} (ok : RequestsOk s) (h : HostId) : noRequest (freeRequestsOf h s) h := by
  obtain ⟨t, freed, -, table⟩ := freeRequestsOf_eq ok (byTag_perm (s.requestsOf h)) (byTag_ascending ok h)
  rw [freed, rebuildIfWaiting_eq, noRequest_iff]
  intro r here owner
  have left : r ∈ tableWithout s (byTag (s.requestsOf h)) := table ▸ here
  obtain ⟨inTable, stays⟩ := List.mem_filter.mp left
  have mine : r ∈ byTag (s.requestsOf h) :=
    (byTag_perm _).mem_iff.mpr (List.mem_filter.mpr ⟨inTable, by simpa using owner⟩)
  simp [mine] at stays

theorem keepsBare_freeRequestsOf {s : State} (ok : RequestsOk s) (g h : HostId) :
    KeepsBare g s (freeRequestsOf h s) :=
  .tables (freeRequestsOf_posts ..) (freeRequestsOf_touches ..)
    (fun bare => ((requestsOk_tableRule.and (noRequest_rule g)).freeRequestsOf (fun _ holds => holds.1) h ⟨ok, bare⟩).2)
    fun bare => ((requestsOk_tableRule.and (noProfile_rule g)).freeRequestsOf (fun _ holds => holds.1) h ⟨ok, bare⟩).2

theorem detachedProfile_life {h : HostId} {p q : Profile} (kept : detachedProfile h p = some q) :
    q.life ≠ .live h ∧ (q.life = p.life ∨ q.life = .orphaned) := by
  unfold detachedProfile at kept
  split at kept
  · cases kept
    exact ⟨‹_›, .inl rfl⟩
  · split at kept <;> cases kept
    exact ⟨nofun, .inr rfl⟩

/-- A detach leaves its host no LIVE profile, and gives none to another (R38). -/
theorem noProfile_detachProfiles {s : State} {g h : HostId} (bare : g ≠ h → noProfile s g) :
    noProfile (allProfileIds.foldl (detachProfile h) s) g := fun id q held => by
  obtain ⟨-, entries, -⟩ := foldl_detachProfile h allProfileIds (List.nodup_finRange 16) s
  rw [entries id, if_pos (mem_allProfileIds id)] at held
  obtain ⟨p, before, kept⟩ := Option.bind_eq_some_iff.mp held
  obtain ⟨notOwn, same | orphaned⟩ := detachedProfile_life kept
  · by_cases own : g = h
    · rw [own]
      exact notOwn
    · rw [same]
      exact bare own id p before
  · rw [orphaned]
    nofun

theorem keepsBare_detachProfiles (g h : HostId) (s : State) :
    KeepsBare g s (allProfileIds.foldl (detachProfile h) s) :=
  .tables (.foldl _ _ _ (detachProfile_posts h)) (detachProfiles_touches ..)
    (fun bare => noRequest_of_table bare (by rw [detachProfiles_requests]))
    fun bare => noProfile_detachProfiles fun _ => bare

theorem keepsBare_freeClaim (g h : HostId) (s : State) : KeepsBare g s (freeClaim h s) := by
  unfold freeClaim
  split
  · exact .of_parts rfl rfl rfl rfl rfl fun _ => by rfl
  · exact .refl g s

theorem noClaim_freeClaim (h : HostId) (s : State) : noClaim (freeClaim h s) h := by
  rw [freeClaim_eq]
  unfold noClaim
  cases holds : s.holdsClaim h with
  | true => rfl
  | false => exact holds

theorem keepsBare_tick (g : HostId) (s : State) : KeepsBare g s (tick s) := by
  have port : (tick s).port g = (s.port g).tick := by cases g <;> rfl
  refine .of_parts (by rw [port]; rfl) ?_ rfl rfl rfl fun bare => ?_
  · rw [stage, stage, port]
    cases detaching : (s.port g).detaching <;> simp [Port.tick, detaching]
  · unfold noClaim State.holdsClaim at *
    cases held : s.engine.claim <;> simp_all [tick]

theorem keepsBare_restartClaim (g h : HostId) (s : State) : KeepsBare g s (restartClaim h s) := by
  unfold restartClaim
  split
  · rename_i holds
    refine .of_parts rfl rfl rfl rfl rfl fun bare => ?_
    have other : h ≠ g := by
      rintro rfl
      rw [bare] at holds
      cases holds
    simp [noClaim, State.holdsClaim, other]
  · exact .refl g s

theorem keepsBare_handOn (g h : HostId) (serial : Nat) (c : CommandCode) (args : List Byte) (s : State) :
    KeepsBare g s (handOn h serial c args s) := by
  have listed : KeepsBare g s (s.setPort h
      { s.port h with
        handed := (s.port h).handed ++ [{ serial := serial, code := c, args := args, stale := false, left := 20 }] }) :=
    .setPort rfl rfl
  exact listed.trans (keepsBare_restartClaim g h _)

theorem buildReady_tables (snap : List Candidate) (s : State) :
    SameTables { s with calendar.builder := .ready (buildShadow snap) } (buildReady snap s) :=
  .foldl _ _ _ fun t h => by
    split
    · exact .postNotice ..
    · exact .refl t

theorem holdingsOk_happening {s t : State} (happened : Happening s t) (ports : PortsOk s) (requests : RequestsOk s)
    {g : HostId} (ok : ∀ h, HoldingsOk s h) : HoldingsOk t g := by
  have rule := keepsBare_rule g s
  have same := KeepsBare.refl g s
  have moved {u : State} (keeps : KeepsBare g s u) : HoldingsOk u g := keeps.holdings (ok g)
  cases happened with
  | nothing => exact ok g
  | powerOn => exact (KeepsBare.same rfl rfl rfl rfl rfl).holdings (holdingsOk_reset g)
  | resetRelease => exact moved (.same rfl rfl rfl rfl rfl)
  | pulse h => exact holdingsOk_portDetach none (moved (.setPort rfl rfl))
  | pulseAgain h busy => exact moved (.setPort rfl (by rw [busy]; rfl))
  | hrstRelease h => exact moved (.setPort rfl rfl)
  | transfer h touches =>
    rw [touches]
    exact moved (.setPort rfl rfl)
  | discard h => exact moved (.setPort rfl rfl)
  | takeFrame h frame free =>
    have taking : KeepsBare g s (s.setPort h (taking (s.port h))) := .setPort rfl rfl
    rcases checkFrame_cases h (s.port h).nextSerial frame (s.setPort h (Proofs.taking (s.port h))) with
      ⟨r, answered⟩ | ⟨c, args, -, handed⟩
    · rw [answered]
      have sent : KeepsBare g (s.setPort h (Proofs.taking (s.port h)))
          (sendAnswer h (s.port h).nextSerial 20 r (s.setPort h (Proofs.taking (s.port h)))) := .setPort rfl rfl
      exact moved (taking.trans sent)
    · rw [handed]
      exact moved (taking.trans (keepsBare_handOn ..))
  | responseTaken h stage out =>
    unfold Port.responseTaken
    split
    · exact moved (.setPort rfl rfl)
    · exact moved (.setPort rfl rfl)
  | answer h oldest =>
    rw [deliverAnswer_eq, State.setPort_port_self, State.setPort_setPort]
    exact moved (.setPort rfl rfl)
  | @detachRequests h d busy next =>
    by_cases other : g = h
    · subst other
      exact holdingsOk_at ((stage_of_posts (freeRequestsOf_posts ..) g).trans (stage_stepped ..))
        (noRequest_freeRequestsOf (s := stepped s g d .profiles) (requestsOk_of_table requests rfl) g)
    · exact moved ((KeepsBare.setPort_other other _).trans
        (keepsBare_freeRequestsOf (s := stepped s h d .profiles) (requestsOk_of_table requests rfl) g h))
  | @detachProfiles h d busy next =>
    have keeps := keepsBare_detachProfiles g h (stepped s h d .records)
    by_cases other : g = h
    · subst other
      have empty := emptied_of_busy ports (ok g) busy
      rw [next] at empty
      exact holdingsOk_at ((stage_of_posts (.foldl _ _ _ (detachProfile_posts g)) g).trans (stage_stepped ..))
        ⟨keeps.requests empty, noProfile_detachProfiles fun ne => absurd rfl ne⟩
    · exact moved ((KeepsBare.setPort_other other _).trans keeps)
  | @detachRecords h d busy next =>
    by_cases other : g = h
    · subst other
      have empty := emptied_of_busy ports (ok g) busy
      rw [next] at empty
      exact holdingsOk_at (stage_stepped s g d .direct) ⟨empty.1, empty.2, State.setMailbox_mailbox_self ..⟩
    · exact moved ((KeepsBare.setPort_other other _).trans (.setMailbox_other other _))
  | @detachDirect h d busy next =>
    have keeps : KeepsBare g (stepped s h d .claim) _ := .link (detachDirect_touches h _)
    by_cases other : g = h
    · subst other
      have empty := emptied_of_busy ports (ok g) busy
      rw [next] at empty
      refine keeps.holdings (holdingsOk_at (stage_stepped s g d .claim) ?_)
      exact empty
    · exact moved ((KeepsBare.setPort_other other _).trans keeps)
  | @detachClaim h d busy next =>
    have keeps := keepsBare_freeClaim g h
    by_cases other : g = h
    · subst other
      obtain ⟨bareRequests, bareProfiles, bareRecords⟩ : Emptied s g (some .claim) := by
        have empty := emptied_of_busy ports (ok g) busy
        rwa [next] at empty
      refine holdingsOk_at (at' := none) ?_ ⟨(keeps _).requests bareRequests, (keeps _).profiles bareProfiles,
        (keeps _).records bareRequests bareRecords, noClaim_freeClaim ..⟩
      rw [(keeps _).stage, stage, State.setPort_port_self]
      rfl
    · exact moved ((KeepsBare.setPort_other other _).trans (keeps _))
  | claimExpiry =>
    have freed : KeepsBare g s { s with engine.claim := none } := .of_parts rfl rfl rfl rfl rfl fun _ => by rfl
    exact moved (freed.trans (.tables (postNotice_posts ..) (postNotice_touches ..)
      (fun bare => (noRequest_rule g).same bare (.postNotice ..))
      fun bare => (noProfile_rule g).same bare (.postNotice ..)))
  | @holdTimeout h r overdue =>
    by_cases other : g = h
    · subst other
      refine moved ⟨attached_of_posts (discardRecord_posts ..) g, stage_of_posts (discardRecord_posts ..) g,
        (noRequest_rule g).discardRecord g r, (noProfile_rule g).discardRecord g r, fun _ bare => ?_,
        KeepsBare.noClaim_of_claim (by rw [discardRecord_touches])⟩
      rw [overdueRecord, show s.mailbox g = _ from bare] at overdue
      cases overdue
    · exact moved (.discardRecord other r)
  | buildAgain => exact moved (.same rfl rfl rfl rfl rfl)
  | buildReady =>
    refine moved (.tables (buildReady_posts ..) (buildReady_touches ..)
      (fun bare => (noRequest_rule g).same ?_ (buildReady_tables ..))
      fun bare => (noProfile_rule g).same ?_ (buildReady_tables ..)) <;> exact bare
  | slotStart => exact moved (rule.slotStart same)
  | exposureExpiry => exact moved (rule.setupPointIfDue (same.trans (.same rfl rfl rfl rfl rfl)))
  | frameStart => exact moved (rule.frameStarted _ same)
  | frameStartIgnored => exact moved (rule.frameStartIgnored same)
  | line => exact moved (.same rfl rfl rfl rfl rfl)
  | frameEnd => exact moved (rule.frameEnded _ same)
  | setupBegin working => exact moved (.link rfl)
  | directAgain working => exact moved (.link rfl)
  | writeAcknowledged => exact moved (.link (writeAcknowledged_touches ..))
  | writeRefused => exact moved (.link (writeRefused_touches ..))
  | drainEnd => exact moved (.link (drainEnd_touches ..))
  | directDone working =>
    rw [finishDirect_eq, deliverAnswer_eq]
    refine KeepsBare.holdings (.link (linkIdle_touches _)) ?_
    exact moved (.setPort rfl rfl)

/-! ### The tables together -/

theorem step_keeps_holdings {s t : State} (falls : step s = .next t) (ports : PortsOk s) (requests : RequestsOk s)
    (ok : ∀ g, HoldingsOk s g) : ∀ g, HoldingsOk t g := by
  refine step_induction (R := fun s t => PortsOk s → RequestsOk s → (∀ g, HoldingsOk s g) → ∀ g, HoldingsOk t g)
    (fun _ _ _ ok => ok) (fun s _ _ ok g => (keepsBare_tick g s).holdings (ok g)) (fun i s t row ports requests ok g => ?_)
    (fun s q t keeps ports requests ok => keeps ?_ (requestsOk_of_table requests rfl) ?_) falls ports requests ok
  · rcases took_or_happened row with ⟨c, h, took⟩ | happened
    · exact holdingsOk_took c h s t took (ok g)
    · exact holdingsOk_happening happened ports requests ok
  · rw [portsOk_iff] at ports ⊢
    exact ports.same rfl rfl rfl
  · exact fun g => (KeepsBare.same rfl rfl rfl rfl rfl).holdings (ok g)

/-- A host whose detach has come to its profiles has no request left. -/
theorem orphansBare_of_holdings {s : State} (ports : PortsOk s) (ok : ∀ g, HoldingsOk s g) : OrphansBare s :=
  fun h d busy next => by
    have empty := emptied_of_busy ports (ok h) busy
    rwa [next] at empty

/-- Settles O58: the ports by the serial numbers that are open, the tables by their moves, and the holdings by what a
detach has taken. -/
theorem stepsKeepTheTablesInAgreement : Obligations.StepsKeepTheTablesInAgreement :=
  fun s t falls ⟨ports, requests, profiles, holdings⟩ => by
    obtain ⟨requests', profiles'⟩ := requestsAndProfiles_steps.keeps falls (fun _ _ bare => bare)
      (orphansBare_of_holdings ports holdings) ⟨requests, profiles⟩
    exact ⟨step_keeps_portsOk falls ports, requests', profiles', step_keeps_holdings falls ports requests holdings⟩

end Sys2Proof.Proofs

/-! No happening reads or changes the queue of the commands that wait: each part of the part's work on a state with
another queue leaves what it leaves of the state itself, with that queue. -/

namespace Sys2Proof.Proofs

open Sys2Proof.Machine Sys2Proof.Safety

/-- Work that neither reads nor changes the queue. -/
def Passes (q : List Instr) (f : State → State) : Prop := ∀ s, f (withQueue q s) = withQueue q (f s)

theorem Passes.comp {q : List Instr} {f g : State → State} (outer : Passes q g) (inner : Passes q f) :
    Passes q fun s => g (f s) := fun s => (congrArg g (inner s)).trans (outer (f s))

theorem Passes.foldl {q : List Instr} {α : Type} {f : State → α → State} (each : ∀ a, Passes q fun s => f s a)
    (l : List α) : Passes q fun s => l.foldl f s := Aside.foldl (u := withQueue q) (fun s a => each a s) l

/-- Work that goes by a test of anything but the queue. -/
theorem Passes.ite {q : List Instr} {c : State → Prop} [∀ s, Decidable (c s)] {f g : State → State}
    (same : ∀ s, c (withQueue q s) ↔ c s) (yes : Passes q f) (no : Passes q g) :
    Passes q fun s => if c s then f s else g s := fun s => by
  change (if _ then _ else _) = withQueue q (if _ then _ else _)
  by_cases holds : c s
  · rw [if_pos ((same s).mpr holds), if_pos holds]
    exact yes s
  · rw [if_neg (mt (same s).mp holds), if_neg holds]
    exact no s

variable (q : List Instr)

/-! ### The Sensor Link -/

theorem answerSetup_passes (setup : Nat) (complete : Bool) : Passes q (answerSetup setup complete) := fun s => by
  unfold answerSetup
  dsimp only [withQueue]
  repeat' split
  all_goals rfl

theorem takeUpSetup_passes (r : SetupRequest) : Passes q (takeUpSetup r) := fun s => by
  unfold takeUpSetup
  dsimp only [withQueue]
  split
  · exact answerSetup_passes q _ _ (s.setLinkState .idle)
  · rfl

theorem linkIdle_passes : Passes q linkIdle := fun s => by
  unfold linkIdle
  dsimp only [withQueue]
  split
  · rfl
  · exact takeUpSetup_passes q _ { s with link.state := .idle, link.waiting := none }
  · rfl

theorem handSetup_passes (r : SetupRequest) : Passes q (handSetup r) := fun s => by
  unfold handSetup
  dsimp only [withQueue]
  split
  · exact takeUpSetup_passes q r s
  · rfl

theorem handDirect_passes (c : DirectCommand) : Passes q (handDirect c) := fun s => by
  unfold handDirect
  dsimp only [withQueue]
  split <;> rfl

theorem endSetup_passes (setup : Nat) : Passes q (endSetup setup) := fun s => by
  unfold endSetup
  dsimp only [withQueue]
  split
  · split
    · split
      · exact linkIdle_passes q s
      · rfl
    · rfl
  · split <;> rfl
  · rfl

theorem forgetShadow_passes : Passes q forgetShadow := fun s => by
  unfold forgetShadow
  dsimp only [withQueue]
  split <;> rfl

theorem forget_passes (op : DirectOp) : Passes q fun s => op.forget s := by
  cases op with
  | read => exact fun _ => rfl
  | write register bytes =>
    exact Passes.foldl (f := fun t k => if (t.link.map.get k).overlaps register bytes.length then setShadow k none t else t)
      (fun k => .ite (fun _ => Iff.rfl) (fun _ => rfl) fun _ => rfl) allKinds

theorem replaceEntry_passes (k : ParamKind) (e : MapEntry) : Passes q (replaceEntry k e) :=
  .ite (c := fun s => s.link.map.get k = e) (fun _ => Iff.rfl) (fun _ => rfl) fun _ => rfl

theorem dropWaitingDirect_passes (h : HostId) : Passes q (dropWaitingDirect h) := fun s => by
  unfold dropWaitingDirect
  dsimp only [withQueue]
  repeat' split
  all_goals rfl

theorem endDirect_passes (h : HostId) : Passes q (endDirect h) := fun s => by
  unfold endDirect
  dsimp only [withQueue]
  split
  · split
    · split
      · rfl
      · exact linkIdle_passes q s
    · rfl
  · rfl

theorem writeAcknowledged_passes (w : SetupWork) (x : RegisterWrite) (rest : List RegisterWrite) :
    Passes q (writeAcknowledged w x rest) := by
  cases rest with
  | nil =>
    exact (linkIdle_passes q).comp ((answerSetup_passes q w.setup true).comp (f := setShadow x.kind (some x.value))
      fun _ => rfl)
  | cons y rest => exact fun _ => rfl

theorem writeRefused_passes (w : SetupWork) (x : RegisterWrite) : Passes q (writeRefused w x) := fun s => by
  unfold writeRefused
  dsimp only
  split
  · exact (linkIdle_passes q).comp ((answerSetup_passes q w.setup false).comp (f := setShadow x.kind none)
      fun _ => rfl) s
  · rfl

theorem recordDrain_passes (w : DrainWork) (answer : BusAnswer) : Passes q (recordDrain w answer) := fun s => by
  unfold recordDrain
  repeat' split
  all_goals rfl

theorem deliverAnswer_passes (h : HostId) (serial : Nat) (r : Response) : Passes q (deliverAnswer h serial r) :=
  fun s => by
    rw [deliverAnswer_eq, deliverAnswer_eq]
    rfl

theorem finishDirect_passes (w : DirectWork) (r : Response) : Passes q (finishDirect w r) :=
  (linkIdle_passes q).comp (deliverAnswer_passes q _ _ _)

theorem directRefused_passes (w : DirectWork) : Passes q (directRefused w) := fun s => by
  unfold directRefused
  split
  · exact finishDirect_passes q w _ s
  · rfl

/-! ### The tables -/

theorem postNotice_passes (h : HostId) (n : Notice) : Passes q (postNotice h n) :=
  fun s => (aside_withQueue q).postNotice s h n

theorem postToAll_passes (n : Notice) : Passes q (postToAll n) := fun s => (aside_withQueue q).postToAll s n

theorem trigger_passes : Passes q trigger := fun s => (aside_withQueue q).trigger s

theorem rebuildIfWaiting_passes (left : Bool) : Passes q (rebuildIfWaiting left) :=
  fun s => (aside_withQueue q).rebuildIfWaiting s left

theorem tellLeft_passes (r : Request) : Passes q (tellLeft r) := fun s => (aside_withQueue q).tellLeft s r

theorem freeEntry_passes (r : Request) : Passes q (freeEntry r) := fun s => (aside_withQueue q).freeEntry s r

theorem abortTune_passes (id : Fin 16) : Passes q (abortTune id) := fun s => (aside_withQueue q).abortTune s id

theorem missReport_passes (h : HostId) (tags : List Nat) : Passes q (missReport h tags) :=
  fun s => (aside_withQueue q).missReport s h tags

theorem updateRequest_passes (h : HostId) (tag : Nat) (f : Request → Request) :
    Passes q fun s => s.updateRequest h tag f := fun _ => rfl

theorem acknowledgementReport_passes (h : HostId) (tags : List Nat) : Passes q (acknowledgementReport h tags) :=
  Passes.foldl (fun _ _ => rfl) tags

theorem setSwapState_passes (placed : List Placed) (r : Request) : Passes q fun s => setSwapState placed s r := fun s => by
  unfold setSwapState
  dsimp only
  split
  · exact (postNotice_passes q _ _).comp (updateRequest_passes q r.owner r.tag _) s
  · rfl

theorem setSwapStates_passes (placed : List Placed) : Passes q (setSwapStates placed) := fun s => by
  have states := Passes.foldl (setSwapState_passes q placed) (candidatesInOrder s)
  have aborts := Passes.foldl (q := q) (f := fun t id => abortTune id t) (abortTune_passes q) allProfileIds
  exact aborts.comp states s

theorem cleaned_passes (s : State) : Slot.cleaned (withQueue q s) = Slot.cleaned s := rfl

theorem swap_passes (sh : Shadow) : Passes q (swap sh) := fun s => by
  have states (c : Calendar) := setSwapStates_passes q sh.placed { s with calendar := c }
  have posts (n : Notice) (t : State) : postToAll n
      { withQueue q t with calendar := { (withQueue q t).calendar with builder := .idle } } =
        withQueue q (postToAll n { t with calendar := { t.calendar with builder := .idle } }) :=
    postToAll_passes q n { t with calendar := { t.calendar with builder := .idle } }
  rw [swap, swap, cleaned_passes]
  generalize sh.slots.map (Slot.cleaned s) = active
  simp only
  rw [← posts, ← states]
  dsimp only [withQueue]

theorem buildReady_passes (snap : List Candidate) : Passes q (buildReady snap) := fun s => by
  have owns : ownsCandidate (withQueue q s) snap = ownsCandidate s snap := rfl
  have notices (generation : BitVec 16) (detail : Nat) : Passes q fun u => allHosts.foldl
      (fun t h => if ownsCandidate s snap h then
        postNotice h { kind := .rebuildDone, subject := (generation + 1).toNat, detail := detail } t else t) u :=
    Passes.foldl (fun h t => by
      dsimp only
      split
      · exact postNotice_passes q h _ t
      · rfl) allHosts
  unfold buildReady
  rw [owns]
  exact notices _ _ { s with calendar.builder := .ready (buildShadow snap) }

theorem freeDetached_passes (acc : State × Bool) (r : Request) :
    freeDetached (withQueue q acc.1, acc.2) r = (withQueue q (freeDetached acc r).1, (freeDetached acc r).2) :=
  congrArg (·, acc.2 || r.isActive) ((tellLeft_passes q r).comp (freeEntry_passes q r) acc.1)

/-- A fold that carries a flag, and the rebuild that it asks for. -/
theorem foldl_flag_passes {α : Type} {f : State × Bool → α → State × Bool}
    (each : ∀ acc a, f (withQueue q acc.1, acc.2) a = (withQueue q (f acc a).1, (f acc a).2)) (l : List α) :
    Passes q fun s => rebuildIfWaiting (l.foldl f (s, false)).2 (l.foldl f (s, false)).1 := fun s => by
  have folded := Aside.foldl_flag (u := withQueue q) each l (s, false)
  dsimp only at folded ⊢
  rw [folded]
  exact rebuildIfWaiting_passes q _ _

theorem freeRequestsOf_passes (h : HostId) : Passes q (freeRequestsOf h) :=
  fun s => foldl_flag_passes q (freeDetached_passes q) (byTag (s.requestsOf h)) s

theorem orphanProfile_passes (owner : HostId) (id : Fin 16) (p : Profile) : Passes q (orphanProfile owner id p) := by
  refine Passes.comp (f := fun s => s.setProfile id (some { p with life := .orphaned, mode := .manual }))
    (Passes.foldl (fun h => ?_) allHosts) fun _ => rfl
  exact .ite (fun _ => Iff.rfl) (postNotice_passes q _ _) fun _ => rfl

theorem detachProfile_passes (h : HostId) (id : Fin 16) : Passes q fun s => detachProfile h s id := fun s => by
  have profile : (withQueue q s).profile id = s.profile id := rfl
  change detachProfile h (withQueue q s) id = withQueue q (detachProfile h s id)
  unfold detachProfile
  rw [profile]
  split
  · rfl
  · split
    · split
      · exact orphanProfile_passes q ..
      · rfl
    · rfl

theorem raiseReference_passes (id : Fin 16) : Passes q (raiseReference id) :=
  fun s => (aside_withQueue q).raiseReference s id

theorem admitRequest_passes (h : HostId) (a : SubmitArgs) : Passes q (admitRequest h a) := fun s =>
  (trigger_passes q).comp (raiseReference_passes q a.profile)
    { s with
      requests :=
        { table := s.requests.table ++ [admitted h a (nextSequence s.requests)]
          counter := nextSequence s.requests } }

theorem cancelled_passes (r : Request) : Passes q (cancelled r) :=
  (rebuildIfWaiting_passes q _).comp ((tellLeft_passes q r).comp ((postNotice_passes q _ _).comp (freeEntry_passes q r)))

theorem countOccasion_passes (c : FrameContext) (acc : State × Bool) (pair : Subscriber) :
    countOccasion c (withQueue q acc.1, acc.2) pair =
      (withQueue q (countOccasion c acc pair).1, (countOccasion c acc pair).2) := by
  have request : (withQueue q acc.1).request pair.host pair.tag = acc.1.request pair.host pair.tag := rfl
  have steps (id : Fin 16) : (withQueue q acc.1).stepCount id = acc.1.stepCount id := rfl
  unfold countOccasion
  dsimp only
  rw [request]
  split
  · rfl
  · rename_i r found
    split
    · rfl
    · rw [steps]
      split
      · split
        · have leaves : Passes q fun s => tellLeft r (clearEntry r (postNotice r.owner
              { kind := .done, subject := r.tag, detail := 0 } (leaveCalendar r s))) :=
            (tellLeft_passes q r).comp (Passes.comp (fun s => (aside_withQueue q).clearEntry s r)
              ((postNotice_passes q _ _).comp fun s => (aside_withQueue q).leaveCalendar s r))
          exact congrArg (·, acc.2 || r.isActive) (leaves acc.1)
        · rfl
      · rfl

theorem countOccasions_passes (c : FrameContext) (outcome : FrameOutcome) : Passes q (countOccasions c outcome) := by
  cases outcome with
  | normal => exact foldl_flag_passes q (countOccasion_passes q c) c.subscribers
  | dropped => exact fun _ => rfl

theorem endTune_passes (id : Fin 16) (p : Profile) (kind : NoticeKind) (frames : Nat) :
    Passes q (endTune id p kind frames) := fun s => by
  unfold endTune
  dsimp only
  split
  · exact postNotice_passes q _ _ (s.setProfile id (some { p with mode := .manual }))
  · rfl

theorem stepAuto_passes (id : Fin 16) (p : Profile) (mean : Nat) : Passes q (stepAuto id p mean) := fun s => by
  unfold stepAuto
  split <;> rfl

theorem stepTuning_passes (id : Fin 16) (p : Profile) (loop : Loop) (mean : Nat) :
    Passes q (stepTuning id p loop mean) := fun s => by
  have budget : slotBudget (withQueue q s) = slotBudget s := rfl
  unfold stepTuning
  dsimp only
  rw [budget]
  split
  · exact endTune_passes q ..
  · split
    · exact endTune_passes q ..
    · rfl

theorem judgeFrame_passes (c : FrameContext) (outcome : FrameOutcome) : Passes q (judgeFrame c outcome) := fun s => by
  have profile : (withQueue q s).profile c.profile = s.profile c.profile := rfl
  have budget : slotBudget (withQueue q s) = slotBudget s := rfl
  unfold judgeFrame
  rw [profile, budget]
  split
  · rfl
  · split
    · dsimp only
      split
      · rfl
      · exact stepAuto_passes q ..
      · exact stepTuning_passes q ..
    · rfl

theorem offerRecord_passes (h : HostId) (r : Record) : Passes q (offerRecord h r) :=
  .ite (c := fun s => (s.mailbox h).queue.length < recordQueueSize) (fun _ => Iff.rfl) (fun _ => rfl)
    fun s => missReport_passes q h r.tags (s.setMailbox h ((s.mailbox h).noteLost r.frameNumber))

theorem composeRecord_passes (c : FrameContext) (outcome : FrameOutcome) (h : HostId) :
    Passes q fun s => composeRecord c outcome s h := fun s => by
  have served : servedTags (withQueue q s) h c.subscribers = servedTags s h c.subscribers := rfl
  change composeRecord c outcome (withQueue q s) h = withQueue q (composeRecord c outcome s h)
  unfold composeRecord
  rw [served]
  split
  · rfl
  · exact offerRecord_passes q ..

theorem composeRecords_passes (c : FrameContext) (outcome : FrameOutcome) : Passes q (composeRecords c outcome) :=
  Passes.foldl (composeRecord_passes q c outcome) allHosts

theorem discardRecord_passes (h : HostId) (r : Record) : Passes q fun s => discardRecord h s r := fun s => by
  have reported := missReport_passes q h r.tags
    (s.setMailbox h ({ s.mailbox h with queue := (s.mailbox h).queue.erase r }.noteLost r.frameNumber))
  exact reported

end Sys2Proof.Proofs

/-! The Frame Sequencer, Engine Control and the Host Ports neither read nor change the queue of the commands that
wait. -/

namespace Sys2Proof.Proofs

open Sys2Proof.Machine Sys2Proof.Safety

variable (q : List Instr)

/-! ### Setup -/

theorem beginSetup_passes (c : FrameContext) : Passes q (beginSetup c) := fun s =>
  handSetup_passes q { setup := s.sequencer.nextSetup, exposure := c.exposure, gain := c.gain, window := c.window }
    { s with
      sequencer.next := some { state := .setup, setup := s.sequencer.nextSetup, context := c }
      sequencer.nextSetup := s.sequencer.nextSetup + 1 }

theorem setUpSlot_passes (index : Nat) : Passes q (setUpSlot index) := fun s => by
  have profile (id : Fin 16) : (withQueue q s).profile id = s.profile id := rfl
  have active : (withQueue q s).calendar.active = s.calendar.active := rfl
  unfold setUpSlot
  rw [active]
  split
  · rw [profile]
    split
    · split
      · exact beginSetup_passes q _ s
      · rfl
    · rfl
  · rfl

theorem swapIfReady_passes : Passes q swapIfReady := fun s => by
  unfold swapIfReady
  dsimp only [withQueue]
  split
  · exact swap_passes q _ s
  · rfl

theorem setupPoint_passes : Passes q setupPoint := fun s => by
  have index : nextIndexOf (withQueue q s) = nextIndexOf s := rfl
  unfold setupPoint
  dsimp only
  rw [index]
  split
  · exact (setUpSlot_passes q _).comp (swapIfReady_passes q)
      { s with sequencer.nextIndex := nextIndexOf s, sequencer.setupDone := true }
  · exact setUpSlot_passes q _ { s with sequencer.nextIndex := nextIndexOf s, sequencer.setupDone := true }

theorem setupPointIfDue_passes : Passes q setupPointIfDue :=
  .ite (c := fun s => s.engine.state = .running ∧ s.sequencer.setupDone = false) (fun _ => Iff.rfl)
    (setupPoint_passes q) fun _ => rfl

theorem abandonNext_passes : Passes q abandonNext := fun s => by
  unfold abandonNext
  dsimp only [withQueue]
  split
  · rfl
  · exact endSetup_passes q _ (s.setNext none)

/-! ### The close, the end of a stop and the halt -/

theorem countFailure_passes (outcome : FrameOutcome) : Passes q (countFailure outcome) := fun s => by
  unfold countFailure
  split <;> rfl

theorem stopTimers_passes : Passes q stopTimers := fun _ => rfl

theorem answerStop_passes : Passes q answerStop := fun s => by
  unfold answerStop
  dsimp only [withQueue]
  split
  · rfl
  · exact deliverAnswer_passes q _ _ _ { s with engine.stopWaiting := none }

theorem endOfStop_passes : Passes q endOfStop := fun s =>
  (answerStop_passes q).comp (postToAll_passes q _) (stopTimers { s with engine.state := .stopped })

/-- The first four steps of a close (R80). -/
theorem closeSteps_pass (c : FrameContext) (outcome : FrameOutcome) : Passes q fun s =>
    countFailure outcome (countOccasions c outcome (judgeFrame c outcome (composeRecords c outcome s))) :=
  (countFailure_passes q outcome).comp
    ((countOccasions_passes q c outcome).comp
      ((judgeFrame_passes q c outcome).comp (composeRecords_passes q c outcome)))

theorem closeFrame_passes (c : FrameContext) (outcome : FrameOutcome) : Passes q (closeFrame c outcome) := fun s => by
  have steps := closeSteps_pass q { c with outcome := some outcome } outcome s
  have failures : (withQueue q s).sequencer.stallFailures = s.sequencer.stallFailures := rfl
  unfold closeFrame
  dsimp only at steps ⊢
  rw [steps, failures]
  have stops : Passes q fun t => if t.engine.state = .stopping ∧
      reachedThree s.sequencer.stallFailures t.sequencer.stallFailures = false then endOfStop t else t :=
    .ite (fun _ => Iff.rfl) (endOfStop_passes q) fun _ => rfl
  exact stops _

theorem dropPresent_passes (reason : DropReason) : Passes q (dropPresent reason) := fun s => by
  unfold dropPresent
  dsimp only [withQueue]
  split
  · rfl
  · split
    · exact closeFrame_passes q _ _ (releasePass { s with sequencer.present := none, sequencer.exposureTimer := none })
    · exact closeFrame_passes q _ _ { s with sequencer.present := none, sequencer.exposureTimer := none }

theorem halt_passes (fault : FaultCode) : Passes q (halt fault) := by
  refine .ite (c := fun s => s.engine.state = .running ∨ s.engine.state = .stopping) (fun _ => Iff.rfl) ?_ fun _ => rfl
  exact (answerStop_passes q).comp ((postToAll_passes q _).comp ((stopTimers_passes q).comp
    ((abandonNext_passes q).comp ((dropPresent_passes q .halt).comp
      (f := fun s => { s with engine.fault := fault, engine.state := .halted }) fun _ => rfl))))

/-! ### The slot start -/

theorem startNext_passes : Passes q startNext := fun s => by
  unfold startNext
  dsimp only [withQueue]
  split
  · rfl
  · split
    · rfl
    · split
      · exact closeFrame_passes q _ _
          { s with
            sequencer.position := .slot s.sequencer.nextIndex
            sequencer.next := none
            sequencer.frameNumber := nextFrameNumber s.sequencer.frameNumber }
      · exact (closeFrame_passes q _ _).comp (endSetup_passes q _)
          { s with
            sequencer.position := .slot s.sequencer.nextIndex
            sequencer.next := none
            sequencer.frameNumber := nextFrameNumber s.sequencer.frameNumber }

theorem handFaults_passes (stall link : Bool) : Passes q (handFaults stall link) := by
  have first : Passes q fun s => if stall = true then halt .sensorStall s else s :=
    .ite (fun _ => Iff.rfl) (halt_passes q _) fun _ => rfl
  cases link with
  | false => exact first
  | true => exact (halt_passes q .sensorLink).comp first

theorem startedSlot_passes : Passes q startedSlot := fun s =>
  dropPresent_passes q .stall
    { s with sequencer := { s.sequencer with slotTimer := some s.engine.slotPeriod, setupDone := false } }

theorem slotStart_passes : Passes q slotStart := fun s => by
  have next : (fun t => if t.engine.state = .running then startNext t else t) (withQueue q (startedSlot s)) = _ :=
    Passes.ite (q := q) (c := fun t => t.engine.state = .running) (fun _ => Iff.rfl) (startNext_passes q)
      (g := fun t => t) (fun _ => rfl) (startedSlot s)
  have faults (stall link : Bool) : Passes q fun t => if stall || link then handFaults stall link t
      else if t.sequencer.present.isNone then setupPointIfDue t else t :=
    .ite (c := fun _ => (stall || link) = true) (fun _ => Iff.rfl) (handFaults_passes q stall link)
      (.ite (c := fun t => t.sequencer.present.isNone = true) (fun _ => Iff.rfl) (setupPointIfDue_passes q) fun _ => rfl)
  have started := startedSlot_passes q s
  rw [slotStart_eq rfl, slotStart_eq rfl, started]
  dsimp only at next ⊢
  rw [next]
  exact faults _ _ _

/-! ### Frames -/

theorem takeUpFrame_passes (c : FrameContext) : Passes q (takeUpFrame c) := fun _ => rfl

theorem frameStarted_passes (f : PresentFrame) : Passes q (frameStarted f) := fun s =>
  (setupPointIfDue_passes q).comp (takeUpFrame_passes q f.context)
    { s with sequencer.present := some { f with state := .readout }, sequencer.exposureTimer := none }

theorem frameStartIgnored_passes : Passes q frameStartIgnored := fun s => by
  unfold frameStartIgnored
  dsimp only [withQueue]
  split <;> rfl

theorem frameEnded_passes (f : PresentFrame) : Passes q (frameEnded f) := fun s =>
  closeFrame_passes q
    { f.context with
      statistics := some s.framePass.accumulators.statistics
      sizeMismatch := s.framePass.mismatch f.context.window }
    .normal (releasePass { s with sequencer.present := none, sequencer.exposureTimer := none })

/-! ### The run -/

theorem takeUpRun_passes : Passes q takeUpRun := fun s =>
  congrArg (fun t : State => { t with sequencer.slotTimer := some s.engine.slotPeriod })
    (setupPoint_passes q
      { s with
        sequencer.linkFailures := 0
        sequencer.stallFailures := 0
        sequencer.position := .beforeSlot0
        sequencer.next := none
        sequencer.present := none })

theorem startEngine_passes : Passes q startEngine := by
  refine (takeUpRun_passes q).comp ((postToAll_passes q _).comp (Passes.comp (g := fun t =>
    { t with engine.state := .running }) (fun _ => rfl) ((forgetShadow_passes q).comp
      (f := fun s => { s with engine.fault := .none }) fun _ => rfl)))

theorem beginBuild_passes : Passes q beginBuild := fun _ => rfl

/-! ### The Host Ports -/

theorem portDetach_passes (h : HostId) (answers : Option Nat) : Passes q (portDetach h answers) := fun _ => rfl

theorem detachStep_passes (step next : DetachStep) (h : HostId) {run : State → State} (passes : Passes q run) :
    Passes q (detachStep step next h run) := fun s => by
  have port : (withQueue q s).port h = s.port h := rfl
  unfold detachStep
  rw [port]
  split
  · rfl
  · split
    · exact passes (s.setPort h _)
    · rfl

theorem commonMoment_passes (h : HostId) (m : Moment) : Passes q (commonMoment h m) := fun s => by
  have port : (withQueue q s).port h = s.port h := rfl
  unfold commonMoment
  rw [port]
  split <;> rfl

theorem restartClaim_passes (h : HostId) : Passes q (restartClaim h) :=
  .ite (c := fun s => s.holdsClaim h = true) (fun _ => Iff.rfl) (fun _ => rfl) fun _ => rfl

theorem handOn_passes (h : HostId) (serial : Nat) (c : CommandCode) (args : List Byte) :
    Passes q (handOn h serial c args) :=
  (restartClaim_passes q h).comp (f := fun s => s.setPort h
    { s.port h with
      handed := (s.port h).handed ++
        [{ serial := serial, code := c, args := args, stale := false, left := answerTime }] }) fun _ => rfl

theorem checkFrame_passes (h : HostId) (serial : Nat) (frame : List Byte) : Passes q (checkFrame h serial frame) :=
  fun s => by
    have port : (withQueue q s).port h = s.port h := rfl
    unfold checkFrame
    split
    · rfl
    · rfl
    · rw [port]
      split
      · exact handOn_passes q ..
      · rfl

theorem takeFrame_passes (h : HostId) (frame : List Byte) : Passes q (takeFrame h frame) := fun s => by
  have port : (withQueue q s).port h = s.port h := rfl
  unfold takeFrame
  dsimp only
  rw [port]
  split
  · rfl
  · exact checkFrame_passes q h _ frame (s.setPort h _)

theorem freeClaim_passes (h : HostId) : Passes q (freeClaim h) :=
  .ite (c := fun s => s.holdsClaim h = true) (fun _ => Iff.rfl) (fun _ => rfl) fun _ => rfl

theorem setItem_passes (h : HostId) (item : ConfigItem) : Passes q fun s => setItem h s item := fun s => by
  cases item <;> rfl

end Sys2Proof.Proofs

/-! The blocks that own the commands neither read nor change the queue of the commands that wait. -/

namespace Sys2Proof.Proofs

open Sys2Proof.Machine Sys2Proof.Safety

/-- A block's work on a command that neither reads nor changes the queue. -/
def ReplyPasses (q : List Instr) (run : State → Reply) : Prop :=
  ∀ s, run (withQueue q s) = { answer := (run s).answer, state := withQueue q (run s).state }

namespace ReplyPasses

variable {q : List Instr}

theorem refuse (status : Status) : ReplyPasses q (refuse status) := fun _ => rfl

theorem accept {results : State → List Byte} (same : ∀ s, results (withQueue q s) = results s) {f : State → State}
    (passes : Passes q f) : ReplyPasses q fun s => accept (results s) (f s) := fun s => by
  dsimp only
  rw [same, passes]
  rfl

/-- A command that answers what it reads and changes nothing. -/
theorem reads {results : State → List Byte} (same : ∀ s, results (withQueue q s) = results s) :
    ReplyPasses q fun s => Machine.accept (results s) s := accept same fun _ => rfl

/-- A command that changes the state and answers nothing. -/
theorem acts {f : State → State} (passes : Passes q f) : ReplyPasses q fun s => Machine.accept [] (f s) :=
  accept (fun _ => rfl) passes

theorem acceptPending {f : State → State} (passes : Passes q f) : ReplyPasses q fun s => acceptPending (f s) :=
  fun s => by
    dsimp only
    rw [passes]
    rfl

/-- A reply that goes by a test of anything but the queue. -/
theorem ite {c : State → Prop} [∀ s, Decidable (c s)] {f g : State → Reply}
    (same : ∀ s, c (withQueue q s) ↔ c s) (yes : ReplyPasses q f) (no : ReplyPasses q g) :
    ReplyPasses q fun s => if c s then f s else g s := fun s => by
  dsimp only
  by_cases holds : c s
  · rw [if_pos ((same s).mpr holds), if_pos holds]
    exact yes s
  · rw [if_neg (mt (same s).mp holds), if_neg holds]
    exact no s

theorem ifRange {α : Type} (parsed : Option α) {run : State → α → Reply} (each : ∀ a, ReplyPasses q fun s => run s a) :
    ReplyPasses q fun s => ifRange parsed s (run s) := by
  cases parsed with
  | none => exact refuse .range
  | some a => exact each a

theorem ifHolder (h : HostId) {run : State → Reply} (passes : ReplyPasses q run) :
    ReplyPasses q fun s => ifHolder h s (run s) :=
  .ite (c := fun s => s.holdsClaim h = true) (fun _ => Iff.rfl) passes (.refuse _)

theorem editProfile (h : HostId) (id : Fin 16) {edit : State → Profile → Except Status (Option Profile)}
    (same : ∀ s, edit (withQueue q s) = edit s) : ReplyPasses q fun s => editProfile h id s (edit s) := fun s => by
  have profile : (withQueue q s).profile id = s.profile id := rfl
  dsimp only
  unfold Machine.editProfile
  rw [profile, same]
  split
  · rfl
  · split
    · split <;> rfl
    · rfl

theorem withRequest (h : HostId) (cmd : Handed) {run : State → Request → Reply}
    (each : ∀ r, ReplyPasses q fun s => run s r) : ReplyPasses q fun s => withRequest h cmd s (run s) :=
  .ifRange _ fun tag s => by
    have request : (withQueue q s).request h tag = s.request h tag := rfl
    dsimp only
    rw [request]
    split
    · rfl
    · exact each _ s

theorem ifAttached (h : HostId) (cmd : Handed) {run : Handed → State → Reply} (passes : ReplyPasses q (run cmd)) :
    ReplyPasses q (ifAttached h run cmd) :=
  .ite (c := fun s => ((s.port h).attached && !cmd.stale) = true) (fun _ => Iff.rfl) passes (.refuse _)

end ReplyPasses

theorem takeCommand_passes (q : List Instr) (c : CommandCode) (h : HostId) {run : Handed → State → Reply}
    (passes : ∀ cmd, ReplyPasses q (run cmd)) : Passes q (takeCommand c h run) := fun s => by
  have taking : taken (withQueue q s) h c = withQueue q (taken s h c) := rfl
  cases waits : (s.port h).waitingCommand c with
  | none => rw [takeCommand_none waits, takeCommand_none (s := withQueue q s) waits]
  | some cmd =>
    rw [takeCommand_some waits, takeCommand_some (s := withQueue q s) waits, taking, passes]
    obtain ⟨answer, state⟩ := run cmd (taken s h c)
    cases answer <;> rfl

variable (q : List Instr) (h : HostId) (cmd : Handed)

/-! ### The ports -/

theorem attachPort_passes : ReplyPasses q (attachPort h cmd) := by
  refine .ite (c := fun _ => cmd.stale = true) (fun _ => Iff.rfl) (.refuse _) (.ifRange _ fun _ => ?_)
  exact .ite (c := fun s => (s.port h).attached = true) (fun _ => Iff.rfl) (.refuse _)
    (.accept (fun _ => rfl) fun _ => rfl)

theorem detachPort_passes : ReplyPasses q (detachPort h cmd) :=
  .ifRange _ fun _ => .acceptPending (portDetach_passes q h _)

theorem getStatus_passes : ReplyPasses q (getStatus h cmd) := .ifRange _ fun _ => .reads fun _ => rfl

theorem getNotice_passes : ReplyPasses q (getNotice h cmd) := .ifRange _ fun _ s => by
  have port : (withQueue q s).port h = s.port h := rfl
  dsimp only
  rw [port]
  split <;> rfl

theorem setAttention_passes : ReplyPasses q (setAttention h cmd) := .ifRange _ fun _ => .acts fun _ => rfl

/-! ### The Request Manager -/

theorem submit_passes : ReplyPasses q (submit h cmd) := by
  refine .ifRange _ fun a => .ite (c := fun s => (s.request h a.tag).isSome = true) (fun _ => Iff.rfl) (.refuse _)
    fun s => ?_
  have profile : (withQueue q s).profile a.profile = s.profile a.profile := rfl
  have admits : ReplyPasses q fun s =>
      if (s.engine.quotas.get h).requests ≤ (s.requestsOf h).length then refuse .quota s
      else if requestEntries ≤ s.requests.table.length then refuse .tableFull s
      else accept (beBytes 4 (nextSequence s.requests).toNat) (admitRequest h a s) :=
    .ite (fun _ => Iff.rfl) (.refuse _)
      (.ite (fun _ => Iff.rfl) (.refuse _) (.accept (fun _ => rfl) (admitRequest_passes q h a)))
  rw [profile]
  split
  · rfl
  · split
    · rfl
    · split
      · rfl
      · exact admits s

theorem cancel_passes : ReplyPasses q fun t => withRequest h cmd t fun r => accept [] (cancelled r t) :=
  .withRequest h cmd fun r => .acts (cancelled_passes q r)

theorem resume_passes : ReplyPasses q (resume h cmd) := by
  refine .withRequest h cmd fun r => .ite (c := fun _ => r.state = .suspended) (fun _ => Iff.rfl) ?_ (.refuse _)
  exact .acts ((trigger_passes q).comp (updateRequest_passes q h r.tag _))

theorem queryRequest_passes : ReplyPasses q fun t => withRequest h cmd t fun r => accept (requestResults r) t :=
  .withRequest h cmd fun _ => .reads fun _ => rfl

theorem listRequests_passes : ReplyPasses q fun t =>
    ifRange (tagArg cmd.args) t fun start => accept (listResults (t.requestsOf h) start) t :=
  .ifRange _ fun _ => .reads fun _ => rfl

/-! ### Profiles -/

theorem createProfile_passes : ReplyPasses q (createProfile h cmd) := by
  refine .ifRange _ fun _ => .ite (c := fun s => (s.engine.quotas.get h).profiles ≤ s.profilesOwned h)
    (fun _ => Iff.rfl) (.refuse _) fun s => ?_
  have free : lowestFreeId (withQueue q s) = lowestFreeId s := rfl
  rw [free]
  split <;> rfl

theorem readProfile_passes : ReplyPasses q (readProfile cmd) := .ifRange _ fun id s => by
  have profile : (withQueue q s).profile id = s.profile id := rfl
  dsimp only
  rw [profile]
  split <;> rfl

theorem deleteProfile_passes : ReplyPasses q (deleteProfile h cmd) := .ifRange _ fun id => .editProfile h id fun _ => rfl

theorem setExposure_passes : ReplyPasses q (setExposure h cmd) := .ifRange _ fun a => .editProfile h a.1 fun _ => rfl

theorem setLimits_passes : ReplyPasses q (setLimits h cmd) := .ifRange _ fun a => .editProfile h a.1 fun _ => rfl

theorem setTarget_passes : ReplyPasses q (setTarget h cmd) := .ifRange _ fun a => .editProfile h a.1 fun _ => rfl

theorem setWindow_passes : ReplyPasses q (setWindow h cmd) := fun s =>
  ReplyPasses.ifRange (setWindowArgs s.link.description.width s.link.description.height cmd.args)
    (fun a => .editProfile h a.1 (edit := fun _ p => .ok (some { p with window := a.2 })) fun _ => rfl) s

theorem setSteps_passes : ReplyPasses q (setSteps h cmd) := .ifRange _ fun a => .editProfile h a.1 fun _ => rfl

theorem share_passes : ReplyPasses q (share h cmd) := .ifRange _ fun a => .editProfile h a.1 fun _ => rfl

theorem setMode_passes : ReplyPasses q (setMode h cmd) := .ifRange _ fun a => .editProfile h a.1 fun _ => rfl

theorem tune_passes : ReplyPasses q (tune h cmd) := .ifRange _ fun id => .editProfile h id fun _ => rfl

/-! ### The Calendar -/

theorem rebuild_passes : ReplyPasses q (rebuild cmd) := .ifRange _ fun _ => .accept (fun _ => rfl) (trigger_passes q)

theorem readSlotOf_passes (generation : BitVec 16) (slots : List Slot) (index : Nat) :
    ReplyPasses q (readSlotOf generation slots index) := fun s => by
  unfold readSlotOf
  split <;> rfl

theorem readSlot_passes : ReplyPasses q (readSlot cmd) := .ifRange _ fun a => by
  refine .ite (c := fun _ => a.1 = true) (fun _ => Iff.rfl) (fun s => ?_) fun s => readSlotOf_passes q _ _ _ s
  have builder : (withQueue q s).calendar.builder = s.calendar.builder := rfl
  rw [builder]
  split
  · exact readSlotOf_passes q _ _ _ s
  · rfl

theorem getCalendarInfo_passes : ReplyPasses q fun t => ifRange (noArgs cmd.args) t fun _ => accept (calendarResults t) t :=
  .ifRange _ fun _ => .reads fun _ => rfl

/-! ### Records -/

theorem fetchRecord_passes : ReplyPasses q (fetchRecord h cmd) := .ifRange _ fun _ s => by
  have mailbox : (withQueue q s).mailbox h = s.mailbox h := rfl
  dsimp only
  rw [mailbox]
  split <;> rfl

theorem ackRecord_passes : ReplyPasses q (ackRecord h cmd) := .ifRange _ fun number s => by
  have mailbox : (withQueue q s).mailbox h = s.mailbox h := rfl
  dsimp only
  rw [mailbox]
  split
  · rfl
  · rename_i r rest _
    split
    · exact ReplyPasses.accept (results := fun _ => beBytes 1 rest.length) (f := acknowledgementReport h r.tags)
        (fun _ => rfl) (acknowledgementReport_passes q h r.tags) (s.setMailbox h { s.mailbox h with queue := rest })
    · rfl

theorem setHold_passes : ReplyPasses q (setHold h cmd) := by
  refine .ifRange _ fun limit => .accept (results := fun s => beBytes 1
    ((s.mailbox h).queue.filter (Record.holdOver limit s.delivery.clock)).length) (fun _ => rfl) fun s => ?_
  exact Passes.foldl (discardRecord_passes q h)
    ((s.mailbox h).queue.filter (Record.holdOver limit s.delivery.clock))
    (s.setMailbox h { s.mailbox h with holdLimit := limit })

/-! ### Engine Control -/

theorem claim_passes : ReplyPasses q (claim h cmd) := .ifRange _ fun _ s => by
  have held : (withQueue q s).engine.claim = s.engine.claim := rfl
  dsimp only
  rw [held]
  split
  · rfl
  · split <;> rfl

theorem release_passes : ReplyPasses q (release h cmd) := .ifRange _ fun _ =>
  .ifHolder h (.acts (f := fun s => { s with engine.claim := none }) fun _ => rfl)

/-- A command that needs the claim and a still engine. -/
theorem whileStill_passes {run : State → Reply} {status : Status} (passes : ReplyPasses q run) :
    ReplyPasses q fun s => ifHolder h s (if s.engine.state.isStill then run s else refuse status s) :=
  .ifHolder h (.ite (c := fun s => s.engine.state.isStill = true) (fun _ => Iff.rfl) passes (.refuse _))

theorem setConfig_passes : ReplyPasses q (setConfig h cmd) :=
  .ifRange _ fun item => whileStill_passes q h (.acts (setItem_passes q h item))

theorem readConfig_passes : ReplyPasses q fun t => ifRange (noArgs cmd.args) t fun _ => accept (configResults t) t :=
  .ifRange _ fun _ => .reads fun _ => rfl

theorem setQuota_passes : ReplyPasses q (setQuota h cmd) := .ifRange _ fun a => by
  refine .ifHolder h (.ite (c := fun s => requestEntries < quotaSum (s.engine.quotas.set a.1 a.2) Quota.requests ∨
    16 < quotaSum (s.engine.quotas.set a.1 a.2) Quota.profiles) (fun _ => Iff.rfl) (.refuse _) ?_)
  exact .ite (c := fun s => a.2.requests < (s.requestsOf a.1).length ∨ a.2.profiles < s.profilesOwned a.1)
    (fun _ => Iff.rfl) (.refuse _) (.acts fun _ => rfl)

theorem start_passes : ReplyPasses q (start h cmd) := .ifRange _ fun _ => whileStill_passes q h fun s => by
  have fault : configFault (withQueue q s) = configFault s := rfl
  rw [fault]
  split
  · rfl
  · exact ReplyPasses.acts (startEngine_passes q) s

theorem stopEngine_passes (serial : Nat) : ReplyPasses q (stopEngine h serial) := fun s => by
  have present : (withQueue q s).sequencer.present = s.sequencer.present := rfl
  have stopped : Passes q fun s => postToAll { kind := .engineStopped, subject := 0, detail := 0 }
      (stopTimers { abandonNext s with engine.state := .stopped }) :=
    (postToAll_passes q _).comp (Passes.comp (g := fun t => stopTimers { t with engine.state := .stopped })
      (fun _ => rfl) (abandonNext_passes q))
  have stopping : Passes q fun s =>
      { abandonNext s with engine.state := .stopping, engine.stopWaiting := some (h, serial) } :=
    Passes.comp (g := fun t => { t with engine.state := .stopping, engine.stopWaiting := some (h, serial) })
      (fun _ => rfl) (abandonNext_passes q)
  unfold stopEngine
  dsimp only
  rw [present]
  split
  · exact ReplyPasses.accept (results := fun _ => beBytes 1 EngineState.stopped.code) (fun _ => rfl) stopped s
  · exact ReplyPasses.acceptPending stopping s

theorem stop_passes : ReplyPasses q (stop h cmd) := by
  refine .ifRange _ fun _ => .ifHolder h (.ite (c := fun s => s.engine.state = .running) (fun _ => Iff.rfl) ?_
    (.refuse _))
  exact stopEngine_passes q h cmd.serial

/-! ### The Sensor Link -/

theorem sensorRead_passes : ReplyPasses q (sensorRead h cmd) :=
  .ifRange _ fun _ => whileStill_passes q h (.acceptPending (handDirect_passes q _))

theorem sensorWrite_passes : ReplyPasses q (sensorWrite h cmd) :=
  .ifRange _ fun op => whileStill_passes q h (.acceptPending ((handDirect_passes q _).comp (forget_passes q op)))

theorem setMap_passes : ReplyPasses q (setMap h cmd) :=
  .ifRange _ fun a => whileStill_passes q h (.acts (replaceEntry_passes q a.1 a.2))

end Sys2Proof.Proofs

/-! Every command completes, and none reads or changes the queue of the commands that wait. -/

namespace Sys2Proof.Proofs

open Sys2Proof.Machine Sys2Proof.Safety

/-- A happening that completes in every state, and with another queue leaves the same state with that queue. -/
def Completes (run : State → Host.Outcome State Fault Refusal) : Prop :=
  ∀ q s, ∃ t, run s = .next t ∧ run (withQueue q s) = .next (withQueue q t)

namespace Completes

variable {f : State → State}

theorem next (passes : ∀ q, Passes q f) : Completes fun s => .next (f s) :=
  fun q s => ⟨f s, rfl, congrArg Host.Outcome.next (passes q s)⟩

theorem falls (passes : ∀ q, Passes q f) (q : List Instr) (s : State) :
    ∃ t, (.next (f s) : Host.Outcome State Fault Refusal) = .next t ∧
      (.next (f (withQueue q s)) : Host.Outcome State Fault Refusal) = .next (withQueue q t) := next passes q s

/-- A happening that does not fall. -/
theorem skips (q : List Instr) (s : State) :
    ∃ t, (.next s : Host.Outcome State Fault Refusal) = .next t ∧
      (.next (withQueue q s) : Host.Outcome State Fault Refusal) = .next (withQueue q t) := ⟨s, rfl, rfl⟩

/-- A happening that goes by a test of anything but the queue. -/
theorem ite {c : State → Prop} [∀ s, Decidable (c s)] {g k : State → Host.Outcome State Fault Refusal}
    (same : ∀ q s, c (withQueue q s) ↔ c s) (yes : Completes g) (no : Completes k) :
    Completes fun s => if c s then g s else k s := fun q s => by
  dsimp only
  by_cases holds : c s
  · rw [if_pos ((same q s).mpr holds), if_pos holds]
    exact yes q s
  · rw [if_neg (mt (same q s).mp holds), if_neg holds]
    exact no q s

/-- A block's taking of a command (R144). -/
theorem command (c : CommandCode) (h : HostId) {run : Handed → State → Reply}
    (passes : ∀ q cmd, ReplyPasses q (run cmd)) : Completes fun s => .next (takeCommand c h (ifAttached h run) s) :=
  next fun q => takeCommand_passes q c h fun cmd => .ifAttached h cmd (passes q cmd)

theorem unattachedCommand (c : CommandCode) (h : HostId) {run : Handed → State → Reply}
    (passes : ∀ q cmd, ReplyPasses q (run cmd)) : Completes fun s => .next (takeCommand c h run s) :=
  next fun q => takeCommand_passes q c h (passes q)

end Completes

/-! ### The ports -/

theorem hrstPulse_completes (h : HostId) : Completes (execHrstPulse h) := by
  refine .ite (c := fun s => (s.resetHeld || (s.port h).hrstLow) = true) (fun _ _ => Iff.rfl)
    (.next fun _ _ => rfl) fun q s => ?_
  have port : (withQueue q s).port h = s.port h := rfl
  dsimp only
  rw [port]
  split <;> exact ⟨_, rfl, rfl⟩

theorem commandTransaction_completes (h : HostId) (m : Moment) : Completes (execCommandTransaction h m) := .next fun q s => by
  have port : (withQueue q s).port h = s.port h := rfl
  rw [port]
  split
  · rfl
  · rfl
  · exact takeFrame_passes q h _ (selectRises h s)
  · exact commonMoment_passes q h _ s

theorem responseRead_completes (h : HostId) (m : Moment) : Completes (execResponseRead h m) := .next fun q s => by
  have port : (withQueue q s).port h = s.port h := rfl
  rw [port]
  split
  · rfl
  · rfl
  · rfl
  · exact commonMoment_passes q h _ s

theorem statusPoll_completes (h : HostId) (direction : Byte) (m : Moment) : Completes (execStatusPoll h direction m) :=
  .next fun q s => by
    have port : (withQueue q s).port h = s.port h := rfl
    rw [port]
    split
    · split <;> rfl
    · rfl
    · rfl
    · exact commonMoment_passes q h _ s

theorem commandAnswer_completes (h : HostId) : Completes (execCommandAnswer h) := fun q s => by
  have port : (withQueue q s).port h = s.port h := rfl
  unfold execCommandAnswer
  rw [port]
  split
  · exact Completes.skips q s
  · exact ⟨_, rfl, congrArg Host.Outcome.next (deliverAnswer_passes q h _ _ (s.setPort h _))⟩

theorem detachFreeClaim_completes (h : HostId) : Completes (execDetachFreeClaim h) := fun q s => by
  have port : (withQueue q s).port h = s.port h := rfl
  unfold execDetachFreeClaim
  rw [port]
  split
  · exact Completes.skips q s
  · split
    · exact ⟨_, rfl, congrArg Host.Outcome.next (freeClaim_passes q h (s.setPort h _))⟩
    · exact Completes.skips q s

/-! ### Timers and builds -/

theorem claimExpiry_completes : Completes execClaimExpiry := fun q s => by
  have claim : (withQueue q s).engine.claim = s.engine.claim := rfl
  unfold execClaimExpiry
  rw [claim]
  split
  · exact Completes.skips q s
  · split
    · exact ⟨_, rfl, congrArg Host.Outcome.next (postNotice_passes q _ _ { s with engine.claim := none })⟩
    · exact Completes.skips q s

theorem holdTimeout_completes (h : HostId) : Completes (execHoldTimeout h) := fun q s => by
  have overdue : overdueRecord (withQueue q s) h = overdueRecord s h := rfl
  unfold execHoldTimeout
  rw [overdue]
  split
  · exact Completes.falls (fun q => discardRecord_passes q h _) q s
  · exact Completes.skips q s

theorem buildComplete_completes : Completes execBuildComplete := fun q s => by
  have builder : (withQueue q s).calendar.builder = s.calendar.builder := rfl
  unfold execBuildComplete
  rw [builder]
  split
  · split
    · exact Completes.falls beginBuild_passes q s
    · exact Completes.falls (fun q => buildReady_passes q _) q s
  · exact Completes.skips q s

/-! ### Frames -/

theorem slotStart_completes : Completes execSlotStart :=
  .ite (c := fun s => s.sequencer.slotTimer = some 0) (fun _ _ => Iff.rfl) (.next slotStart_passes) Completes.skips

theorem exposureTimerExpiry_completes : Completes execExposureTimerExpiry :=
  .ite (c := fun s => s.sequencer.exposureTimer = some 0) (fun _ _ => Iff.rfl)
    (.next fun q s => setupPointIfDue_passes q { s with sequencer.exposureTimer := none }) Completes.skips

theorem frameStart_completes : Completes execFrameStart := fun q s => by
  have present : (withQueue q s).sequencer.present = s.sequencer.present := rfl
  unfold execFrameStart
  rw [present]
  split
  · split
    · exact Completes.falls (fun q => frameStarted_passes q _) q s
    · exact Completes.falls frameStartIgnored_passes q s
  · exact Completes.falls frameStartIgnored_passes q s

theorem videoLine_completes (pixels : List Pixel) (cut : Bool) : Completes (execVideoLine pixels cut) := fun q s => by
  have pass : (withQueue q s).framePass = s.framePass := rfl
  have present : (withQueue q s).sequencer.present = s.sequencer.present := rfl
  unfold execVideoLine
  rw [pass, present]
  split
  · split <;> exact ⟨_, rfl, rfl⟩
  · exact Completes.skips q s

theorem frameEnd_completes : Completes execFrameEnd := fun q s => by
  have present : (withQueue q s).sequencer.present = s.sequencer.present := rfl
  unfold execFrameEnd
  rw [present]
  split
  · split
    · exact Completes.falls (fun q => frameEnded_passes q _) q s
    · exact Completes.skips q s
  · exact Completes.skips q s

/-! ### The Sensor Link -/

theorem i2cTransactionBegin_completes : Completes execI2cTransactionBegin := fun q s => by
  have link : (withQueue q s).link = s.link := rfl
  unfold execI2cTransactionBegin
  rw [link]
  split
  · split
    · exact ⟨_, rfl, rfl⟩
    · exact Completes.skips q s
  · split
    · exact ⟨_, rfl, rfl⟩
    · exact Completes.skips q s
  · exact Completes.skips q s

theorem setupWriteEnd_completes (answer : BusAnswer) : Completes (execSetupWriteEnd answer) := fun q s => by
  have link : (withQueue q s).link = s.link := rfl
  unfold execSetupWriteEnd
  rw [link]
  split
  · split
    · split
      · exact Completes.falls (fun q => writeAcknowledged_passes q _ _ _) q s
      · exact Completes.falls (fun q => writeRefused_passes q _ _) q s
    · exact Completes.skips q s
  · exact Completes.skips q s

theorem drainEnd_completes (answer : BusAnswer) : Completes (execDrainEnd answer) := fun q s => by
  have link : (withQueue q s).link = s.link := rfl
  unfold execDrainEnd
  rw [link]
  split
  · exact Completes.falls (fun q => (linkIdle_passes q).comp (recordDrain_passes q _ answer)) q s
  · exact Completes.skips q s

theorem directReadEnd_completes (answer : ReadAnswer) : Completes (execDirectReadEnd answer) := fun q s => by
  have link : (withQueue q s).link = s.link := rfl
  unfold execDirectReadEnd
  rw [link]
  split
  · split
    · split
      · split
        · exact Completes.falls (fun q => finishDirect_passes q _ _) q s
        · exact Completes.skips q s
      · exact Completes.falls (fun q => directRefused_passes q _) q s
    · exact Completes.skips q s
  · exact Completes.skips q s

theorem directWriteEnd_completes (answer : BusAnswer) : Completes (execDirectWriteEnd answer) := fun q s => by
  have link : (withQueue q s).link = s.link := rfl
  unfold execDirectWriteEnd
  rw [link]
  split
  · split
    · split
      · exact Completes.falls (fun q => finishDirect_passes q _ _) q s
      · exact Completes.falls (fun q => directRefused_passes q _) q s
    · exact Completes.skips q s
  · exact Completes.skips q s

/-! ### Every command -/

theorem exec_completes : (c : Instr) → Completes (exec c)
  | .powerOn => .next fun _ _ => rfl
  | .resetRelease => .next fun _ _ => rfl
  | .hrstPulse h => hrstPulse_completes h
  | .hrstRelease _ => .next fun _ _ => rfl
  | .commandTransaction h moment => commandTransaction_completes h moment
  | .responseRead h moment => responseRead_completes h moment
  | .statusPoll h direction moment => statusPoll_completes h direction moment
  | .commandAnswer h => commandAnswer_completes h
  | .attach h => .unattachedCommand .attach h fun q => attachPort_passes q h
  | .detach h => .command .detach h fun q => detachPort_passes q h
  | .detachFreeRequests h => .next fun q => detachStep_passes q .requests .profiles h (freeRequestsOf_passes q h)
  | .detachProfiles h =>
    .next fun q => detachStep_passes q .profiles .records h (.foldl (detachProfile_passes q h) allProfileIds)
  | .detachEmptyRecordQueue h => .next fun q => detachStep_passes q .records .direct h fun _ => rfl
  | .detachEndDirectCommand h =>
    .next fun q => detachStep_passes q .direct .claim h ((endDirect_passes q h).comp (dropWaitingDirect_passes q h))
  | .detachFreeClaim h => detachFreeClaim_completes h
  | .getStatus h => .unattachedCommand .getStatus h fun q => getStatus_passes q h
  | .getNotice h => .command .getNotice h fun q => getNotice_passes q h
  | .setAttention h => .command .setAttention h fun q => setAttention_passes q h
  | .submit h => .command .submit h fun q => submit_passes q h
  | .cancel h => .command .cancel h fun q => cancel_passes q h
  | .resume h => .command .resume h fun q => resume_passes q h
  | .queryRequest h => .command .queryRequest h fun q => queryRequest_passes q h
  | .listRequests h => .command .listRequests h fun q => listRequests_passes q h
  | .createProfile h => .command .createProfile h fun q => createProfile_passes q h
  | .deleteProfile h => .command .deleteProfile h fun q => deleteProfile_passes q h
  | .readProfile h => .command .readProfile h readProfile_passes
  | .setExposure h => .command .setExposure h fun q => setExposure_passes q h
  | .setLimits h => .command .setLimits h fun q => setLimits_passes q h
  | .setTarget h => .command .setTarget h fun q => setTarget_passes q h
  | .setWindow h => .command .setWindow h fun q => setWindow_passes q h
  | .setSteps h => .command .setSteps h fun q => setSteps_passes q h
  | .share h => .command .share h fun q => share_passes q h
  | .setMode h => .command .setMode h fun q => setMode_passes q h
  | .tune h => .command .tune h fun q => tune_passes q h
  | .rebuild h => .command .rebuild h rebuild_passes
  | .readSlot h => .command .readSlot h readSlot_passes
  | .getCalendarInfo h => .command .getCalendarInfo h getCalendarInfo_passes
  | .fetchRecord h => .command .fetchRecord h fun q => fetchRecord_passes q h
  | .ackRecord h => .command .ackRecord h fun q => ackRecord_passes q h
  | .setHold h => .command .setHold h fun q => setHold_passes q h
  | .claim h => .command .claim h fun q => claim_passes q h
  | .release h => .command .release h fun q => release_passes q h
  | .setConfig h => .command .setConfig h fun q => setConfig_passes q h
  | .readConfig h => .command .readConfig h readConfig_passes
  | .setQuota h => .command .setQuota h fun q => setQuota_passes q h
  | .start h => .command .start h fun q => start_passes q h
  | .stop h => .command .stop h fun q => stop_passes q h
  | .sensorRead h => .command .sensorRead h fun q => sensorRead_passes q h
  | .sensorWrite h => .command .sensorWrite h fun q => sensorWrite_passes q h
  | .setMap h => .command .setMap h fun q => setMap_passes q h
  | .claimExpiry => claimExpiry_completes
  | .holdTimeout h => holdTimeout_completes h
  | .buildComplete => buildComplete_completes
  | .slotStart => slotStart_completes
  | .exposureTimerExpiry => exposureTimerExpiry_completes
  | .frameStart => frameStart_completes
  | .videoLine pixels cut => videoLine_completes pixels cut
  | .frameEnd => frameEnd_completes
  | .i2cTransactionBegin => i2cTransactionBegin_completes
  | .setupWriteEnd answer => setupWriteEnd_completes answer
  | .drainEnd answer => drainEnd_completes answer
  | .directReadEnd answer => directReadEnd_completes answer
  | .directWriteEnd answer => directWriteEnd_completes answer

/-- Settles O2: the queue of the state itself is one of the queues with which a command leaves the same state. -/
theorem everyCommandCompletesAndLeavesTheQueue : Obligations.EveryCommandCompletesAndLeavesTheQueue := by
  intro c s
  obtain ⟨t, completes, kept⟩ := exec_completes c s.pending s
  have same : t = withQueue s.pending t := Host.Outcome.next.inj (completes.symm.trans kept)
  have pending : t.pending = (withQueue s.pending t).pending := congrArg State.pending same
  refine ⟨t, completes, pending, fun q => ?_⟩
  obtain ⟨u, completes', other⟩ := exec_completes c q s
  rw [Host.Outcome.next.inj (completes.symm.trans completes')]
  exact other

end Sys2Proof.Proofs
